-- ==== Sys2Proof/Word.lean ====
section
/-! DEFINITION. The word types of the machine (00_scope R9, R11): bytes, 16-bit words, pixel shades. -/

namespace Sys2Proof

/-- A `u8` of 00_scope R11. -/
abbrev Byte := BitVec 8

/-- A `u16` of 00_scope R11: register pairs, SP, PC and addresses. -/
abbrev Word := BitVec 16

/-- A colour index or a shade, 0 to 3 (60_exceptions R577, R583). -/
abbrev Shade := BitVec 2

end Sys2Proof
end

