-- ==== Sys2Proof/Config.lean ====
section
/-! DEFINITION. The named parameters of 00_scope R10 that the machine itself reads, and the fixed sizes of R9.
They are plain data carried in `State.cfg`, so that every statement about a state is a statement about every value of
the parameters (log 1). No step writes them. The spec leaves no value open, so there is no free value here. -/

namespace Sys2Proof

/-- The parameters a model takes as arguments (00_scope R10), each with the default the spec uses.
`ROM` and `BOOT_ROM` are arguments of `State.boot`; `TONES`, `TARGET_FPS` and the scale are arguments of the host
functions. -/
structure Config where
  /-- `EI_DELAY` (92 D6): IME becomes 1 one instruction after EI. -/
  eiDelay : Bool := false
  /-- `HALT_BUG` (92 D8): reproduce the LR35902's HALT program-counter bug. -/
  haltBug : Bool := false
  /-- `OBJ_BG_PRIORITY` (92 D30): honour sprite attribute bit 7. -/
  objBgPriority : Bool := false
  /-- `RENDER_DOT` (92 D26): the dot at which a visible line is rendered, 0 to 455. -/
  renderDot : Nat := 80
  /-- `MAX_SPRITES_PER_LINE` (92 D29): sprites selected per line, 1 to 40. -/
  maxSprites : Nat := 10
  /-- `POST_BOOT_DIV` (92 D36): the divider after the bootstrap-without-ROM path. -/
  postBootDiv : Word := 0xABCC
  deriving DecidableEq, Repr

/-- The ranges 00_scope R10 gives the parameters. -/
def Config.wf (c : Config) : Bool :=
  decide (c.renderDot ≤ 455) && decide (1 ≤ c.maxSprites) && decide (c.maxSprites ≤ 40)

/-- `CYCLES_PER_SECOND` (00_scope R9). -/
def cyclesPerSecond : Nat := 4194304

/-- `DOTS_PER_SCANLINE` (00_scope R9). -/
def dotsPerLine : Nat := 456

/-- Scanlines per frame, LY 0 to 153 (00_scope R9, 90 C6). -/
def linesPerFrame : Nat := 154

/-- Visible lines (00_scope R9). -/
def visibleLines : Nat := 144

/-- Visible width in pixels (00_scope R9, 92 D25). -/
def visibleWidth : Nat := 160

end Sys2Proof
end

