-- ==== Sys2Proof/WellFormed.lean ====
section
/-! DEFINITION. Well-formedness of an instruction. Every operand's range is a plain fact of its type, so the one check
is that the opcode spells an instruction at all: the eleven bytes of 30_encoding R162 do not. -/

namespace Sys2Proof

/-- The illegal byte a constructor stands for, or none when it is a legal instruction (30_encoding R162). -/
def Instr.illegalByte : Instr → Option Byte
  | .illegal_D3 => some 0xD3
  | .illegal_DB => some 0xDB
  | .illegal_DD => some 0xDD
  | .illegal_E3 => some 0xE3
  | .illegal_E4 => some 0xE4
  | .illegal_EB => some 0xEB
  | .illegal_EC => some 0xEC
  | .illegal_ED => some 0xED
  | .illegal_F4 => some 0xF4
  | .illegal_FC => some 0xFC
  | .illegal_FD => some 0xFD
  | _ => none

/-- The instruction is one of the 500 legal ones. -/
def Instr.wellFormed (i : Instr) : Bool := i.illegalByte.isNone

end Sys2Proof
end

