-- ==== Sys2Proof/Decode.lean ====
section
/-! DEFINITION. Decoding (30_encoding R150 to R165) from the two opcode maps R159 and R161, total on every byte, and the
encoder written from the same maps. -/

namespace Sys2Proof

/-- One cell of an opcode map (30_encoding R159): an instruction of one byte, or one that takes the `imm8` or the `imm16`
of R155 after its opcode. -/
inductive MapCell where
  | len1 (i : Instr)
  | len2 (f : Byte → Instr)
  | len3 (f : Word → Instr)

/-- The length in bytes of the instruction in a cell (30_encoding R159, R164). -/
def MapCell.length : MapCell → Nat
  | .len1 _ => 1
  | .len2 _ => 2
  | .len3 _ => 3

/-- The cell's instruction with its immediate taken from the two bytes after the opcode, low byte first (30_encoding R155). -/
def MapCell.instr (b1 b2 : Byte) : MapCell → Instr
  | .len1 i => i
  | .len2 f => f b1
  | .len3 f => f (b2 ++ b1)

/-- Row 0x of the unprefixed map, 30_encoding R159. -/
def unprefixedRow0 : List MapCell :=
  [.len1 .nop, .len3 .ld_BC_d16, .len1 .ld_atBC_A, .len1 .inc_BC, .len1 .inc_B, .len1 .dec_B, .len2 .ld_B_d8,
   .len1 .rlca, .len3 .ld_atA16_SP, .len1 .add_HL_BC, .len1 .ld_A_atBC, .len1 .dec_BC, .len1 .inc_C, .len1 .dec_C,
   .len2 .ld_C_d8, .len1 .rrca]

/-- Row 1x of the unprefixed map, 30_encoding R159. -/
def unprefixedRow1 : List MapCell :=
  [.len2 .stop, .len3 .ld_DE_d16, .len1 .ld_atDE_A, .len1 .inc_DE, .len1 .inc_D, .len1 .dec_D, .len2 .ld_D_d8,
   .len1 .rla, .len2 .jr_e8, .len1 .add_HL_DE, .len1 .ld_A_atDE, .len1 .dec_DE, .len1 .inc_E, .len1 .dec_E,
   .len2 .ld_E_d8, .len1 .rra]

/-- Row 2x of the unprefixed map, 30_encoding R159. -/
def unprefixedRow2 : List MapCell :=
  [.len2 .jr_NZ_e8, .len3 .ld_HL_d16, .len1 .ld_atHLinc_A, .len1 .inc_HL, .len1 .inc_H, .len1 .dec_H, .len2 .ld_H_d8,
   .len1 .daa, .len2 .jr_Z_e8, .len1 .add_HL_HL, .len1 .ld_A_atHLinc, .len1 .dec_HL, .len1 .inc_L, .len1 .dec_L,
   .len2 .ld_L_d8, .len1 .cpl]

/-- Row 3x of the unprefixed map, 30_encoding R159. -/
def unprefixedRow3 : List MapCell :=
  [.len2 .jr_NC_e8, .len3 .ld_SP_d16, .len1 .ld_atHLdec_A, .len1 .inc_SP, .len1 .inc_atHL, .len1 .dec_atHL,
   .len2 .ld_atHL_d8, .len1 .scf, .len2 .jr_C_e8, .len1 .add_HL_SP, .len1 .ld_A_atHLdec, .len1 .dec_SP, .len1 .inc_A,
   .len1 .dec_A, .len2 .ld_A_d8, .len1 .ccf]

/-- Row 4x of the unprefixed map, 30_encoding R159. -/
def unprefixedRow4 : List MapCell :=
  [.len1 .ld_B_B, .len1 .ld_B_C, .len1 .ld_B_D, .len1 .ld_B_E, .len1 .ld_B_H, .len1 .ld_B_L, .len1 .ld_B_atHL,
   .len1 .ld_B_A, .len1 .ld_C_B, .len1 .ld_C_C, .len1 .ld_C_D, .len1 .ld_C_E, .len1 .ld_C_H, .len1 .ld_C_L,
   .len1 .ld_C_atHL, .len1 .ld_C_A]

/-- Row 5x of the unprefixed map, 30_encoding R159. -/
def unprefixedRow5 : List MapCell :=
  [.len1 .ld_D_B, .len1 .ld_D_C, .len1 .ld_D_D, .len1 .ld_D_E, .len1 .ld_D_H, .len1 .ld_D_L, .len1 .ld_D_atHL,
   .len1 .ld_D_A, .len1 .ld_E_B, .len1 .ld_E_C, .len1 .ld_E_D, .len1 .ld_E_E, .len1 .ld_E_H, .len1 .ld_E_L,
   .len1 .ld_E_atHL, .len1 .ld_E_A]

/-- Row 6x of the unprefixed map, 30_encoding R159. -/
def unprefixedRow6 : List MapCell :=
  [.len1 .ld_H_B, .len1 .ld_H_C, .len1 .ld_H_D, .len1 .ld_H_E, .len1 .ld_H_H, .len1 .ld_H_L, .len1 .ld_H_atHL,
   .len1 .ld_H_A, .len1 .ld_L_B, .len1 .ld_L_C, .len1 .ld_L_D, .len1 .ld_L_E, .len1 .ld_L_H, .len1 .ld_L_L,
   .len1 .ld_L_atHL, .len1 .ld_L_A]

/-- Row 7x of the unprefixed map, 30_encoding R159. -/
def unprefixedRow7 : List MapCell :=
  [.len1 .ld_atHL_B, .len1 .ld_atHL_C, .len1 .ld_atHL_D, .len1 .ld_atHL_E, .len1 .ld_atHL_H, .len1 .ld_atHL_L,
   .len1 .halt, .len1 .ld_atHL_A, .len1 .ld_A_B, .len1 .ld_A_C, .len1 .ld_A_D, .len1 .ld_A_E, .len1 .ld_A_H,
   .len1 .ld_A_L, .len1 .ld_A_atHL, .len1 .ld_A_A]

/-- Row 8x of the unprefixed map, 30_encoding R159. -/
def unprefixedRow8 : List MapCell :=
  [.len1 .add_A_B, .len1 .add_A_C, .len1 .add_A_D, .len1 .add_A_E, .len1 .add_A_H, .len1 .add_A_L, .len1 .add_A_atHL,
   .len1 .add_A_A, .len1 .adc_A_B, .len1 .adc_A_C, .len1 .adc_A_D, .len1 .adc_A_E, .len1 .adc_A_H, .len1 .adc_A_L,
   .len1 .adc_A_atHL, .len1 .adc_A_A]

/-- Row 9x of the unprefixed map, 30_encoding R159. -/
def unprefixedRow9 : List MapCell :=
  [.len1 .sub_B, .len1 .sub_C, .len1 .sub_D, .len1 .sub_E, .len1 .sub_H, .len1 .sub_L, .len1 .sub_atHL, .len1 .sub_A,
   .len1 .sbc_A_B, .len1 .sbc_A_C, .len1 .sbc_A_D, .len1 .sbc_A_E, .len1 .sbc_A_H, .len1 .sbc_A_L, .len1 .sbc_A_atHL,
   .len1 .sbc_A_A]

/-- Row Ax of the unprefixed map, 30_encoding R159. -/
def unprefixedRowA : List MapCell :=
  [.len1 .and_B, .len1 .and_C, .len1 .and_D, .len1 .and_E, .len1 .and_H, .len1 .and_L, .len1 .and_atHL, .len1 .and_A,
   .len1 .xor_B, .len1 .xor_C, .len1 .xor_D, .len1 .xor_E, .len1 .xor_H, .len1 .xor_L, .len1 .xor_atHL, .len1 .xor_A]

/-- Row Bx of the unprefixed map, 30_encoding R159. -/
def unprefixedRowB : List MapCell :=
  [.len1 .or_B, .len1 .or_C, .len1 .or_D, .len1 .or_E, .len1 .or_H, .len1 .or_L, .len1 .or_atHL, .len1 .or_A,
   .len1 .cp_B, .len1 .cp_C, .len1 .cp_D, .len1 .cp_E, .len1 .cp_H, .len1 .cp_L, .len1 .cp_atHL, .len1 .cp_A]

/-- Row Cx of the unprefixed map, 30_encoding R159 (0xCB is the prefix byte: its cell is never used). -/
def unprefixedRowC : List MapCell :=
  [.len1 .ret_NZ, .len1 .pop_BC, .len3 .jp_NZ_a16, .len3 .jp_a16, .len3 .call_NZ_a16, .len1 .push_BC, .len2 .add_A_d8,
   .len1 .rst_00H, .len1 .ret_Z, .len1 .ret, .len3 .jp_Z_a16, .len1 .nop, .len3 .call_Z_a16, .len3 .call_a16,
   .len2 .adc_A_d8, .len1 .rst_08H]

/-- Row Dx of the unprefixed map, 30_encoding R159. -/
def unprefixedRowD : List MapCell :=
  [.len1 .ret_NC, .len1 .pop_DE, .len3 .jp_NC_a16, .len1 .illegal_D3, .len3 .call_NC_a16, .len1 .push_DE,
   .len2 .sub_d8, .len1 .rst_10H, .len1 .ret_C, .len1 .reti, .len3 .jp_C_a16, .len1 .illegal_DB, .len3 .call_C_a16,
   .len1 .illegal_DD, .len2 .sbc_A_d8, .len1 .rst_18H]

/-- Row Ex of the unprefixed map, 30_encoding R159. -/
def unprefixedRowE : List MapCell :=
  [.len2 .ldh_atA8_A, .len1 .pop_HL, .len1 .ld_atC_A, .len1 .illegal_E3, .len1 .illegal_E4, .len1 .push_HL,
   .len2 .and_d8, .len1 .rst_20H, .len2 .add_SP_e8, .len1 .jp_HL, .len3 .ld_atA16_A, .len1 .illegal_EB,
   .len1 .illegal_EC, .len1 .illegal_ED, .len2 .xor_d8, .len1 .rst_28H]

/-- Row Fx of the unprefixed map, 30_encoding R159. -/
def unprefixedRowF : List MapCell :=
  [.len2 .ldh_A_atA8, .len1 .pop_AF, .len1 .ld_A_atC, .len1 .di, .len1 .illegal_F4, .len1 .push_AF, .len2 .or_d8,
   .len1 .rst_30H, .len2 .ld_HL_SPe8, .len1 .ld_SP_HL, .len3 .ld_A_atA16, .len1 .ei, .len1 .illegal_FC,
   .len1 .illegal_FD, .len2 .cp_d8, .len1 .rst_38H]

/-- Row 0x of the 0xCB map, 30_encoding R161. -/
def prefixedRow0 : List Instr :=
  [.rlc_B, .rlc_C, .rlc_D, .rlc_E, .rlc_H, .rlc_L, .rlc_atHL, .rlc_A, .rrc_B, .rrc_C, .rrc_D, .rrc_E, .rrc_H, .rrc_L,
   .rrc_atHL, .rrc_A]

/-- Row 1x of the 0xCB map, 30_encoding R161. -/
def prefixedRow1 : List Instr :=
  [.rl_B, .rl_C, .rl_D, .rl_E, .rl_H, .rl_L, .rl_atHL, .rl_A, .rr_B, .rr_C, .rr_D, .rr_E, .rr_H, .rr_L, .rr_atHL,
   .rr_A]

/-- Row 2x of the 0xCB map, 30_encoding R161. -/
def prefixedRow2 : List Instr :=
  [.sla_B, .sla_C, .sla_D, .sla_E, .sla_H, .sla_L, .sla_atHL, .sla_A, .sra_B, .sra_C, .sra_D, .sra_E, .sra_H, .sra_L,
   .sra_atHL, .sra_A]

/-- Row 3x of the 0xCB map, 30_encoding R161. -/
def prefixedRow3 : List Instr :=
  [.swap_B, .swap_C, .swap_D, .swap_E, .swap_H, .swap_L, .swap_atHL, .swap_A, .srl_B, .srl_C, .srl_D, .srl_E, .srl_H,
   .srl_L, .srl_atHL, .srl_A]

/-- Row 4x of the 0xCB map, 30_encoding R161. -/
def prefixedRow4 : List Instr :=
  [.bit_0_B, .bit_0_C, .bit_0_D, .bit_0_E, .bit_0_H, .bit_0_L, .bit_0_atHL, .bit_0_A, .bit_1_B, .bit_1_C, .bit_1_D,
   .bit_1_E, .bit_1_H, .bit_1_L, .bit_1_atHL, .bit_1_A]

/-- Row 5x of the 0xCB map, 30_encoding R161. -/
def prefixedRow5 : List Instr :=
  [.bit_2_B, .bit_2_C, .bit_2_D, .bit_2_E, .bit_2_H, .bit_2_L, .bit_2_atHL, .bit_2_A, .bit_3_B, .bit_3_C, .bit_3_D,
   .bit_3_E, .bit_3_H, .bit_3_L, .bit_3_atHL, .bit_3_A]

/-- Row 6x of the 0xCB map, 30_encoding R161. -/
def prefixedRow6 : List Instr :=
  [.bit_4_B, .bit_4_C, .bit_4_D, .bit_4_E, .bit_4_H, .bit_4_L, .bit_4_atHL, .bit_4_A, .bit_5_B, .bit_5_C, .bit_5_D,
   .bit_5_E, .bit_5_H, .bit_5_L, .bit_5_atHL, .bit_5_A]

/-- Row 7x of the 0xCB map, 30_encoding R161. -/
def prefixedRow7 : List Instr :=
  [.bit_6_B, .bit_6_C, .bit_6_D, .bit_6_E, .bit_6_H, .bit_6_L, .bit_6_atHL, .bit_6_A, .bit_7_B, .bit_7_C, .bit_7_D,
   .bit_7_E, .bit_7_H, .bit_7_L, .bit_7_atHL, .bit_7_A]

/-- Row 8x of the 0xCB map, 30_encoding R161. -/
def prefixedRow8 : List Instr :=
  [.res_0_B, .res_0_C, .res_0_D, .res_0_E, .res_0_H, .res_0_L, .res_0_atHL, .res_0_A, .res_1_B, .res_1_C, .res_1_D,
   .res_1_E, .res_1_H, .res_1_L, .res_1_atHL, .res_1_A]

/-- Row 9x of the 0xCB map, 30_encoding R161. -/
def prefixedRow9 : List Instr :=
  [.res_2_B, .res_2_C, .res_2_D, .res_2_E, .res_2_H, .res_2_L, .res_2_atHL, .res_2_A, .res_3_B, .res_3_C, .res_3_D,
   .res_3_E, .res_3_H, .res_3_L, .res_3_atHL, .res_3_A]

/-- Row Ax of the 0xCB map, 30_encoding R161. -/
def prefixedRowA : List Instr :=
  [.res_4_B, .res_4_C, .res_4_D, .res_4_E, .res_4_H, .res_4_L, .res_4_atHL, .res_4_A, .res_5_B, .res_5_C, .res_5_D,
   .res_5_E, .res_5_H, .res_5_L, .res_5_atHL, .res_5_A]

/-- Row Bx of the 0xCB map, 30_encoding R161. -/
def prefixedRowB : List Instr :=
  [.res_6_B, .res_6_C, .res_6_D, .res_6_E, .res_6_H, .res_6_L, .res_6_atHL, .res_6_A, .res_7_B, .res_7_C, .res_7_D,
   .res_7_E, .res_7_H, .res_7_L, .res_7_atHL, .res_7_A]

/-- Row Cx of the 0xCB map, 30_encoding R161. -/
def prefixedRowC : List Instr :=
  [.set_0_B, .set_0_C, .set_0_D, .set_0_E, .set_0_H, .set_0_L, .set_0_atHL, .set_0_A, .set_1_B, .set_1_C, .set_1_D,
   .set_1_E, .set_1_H, .set_1_L, .set_1_atHL, .set_1_A]

/-- Row Dx of the 0xCB map, 30_encoding R161. -/
def prefixedRowD : List Instr :=
  [.set_2_B, .set_2_C, .set_2_D, .set_2_E, .set_2_H, .set_2_L, .set_2_atHL, .set_2_A, .set_3_B, .set_3_C, .set_3_D,
   .set_3_E, .set_3_H, .set_3_L, .set_3_atHL, .set_3_A]

/-- Row Ex of the 0xCB map, 30_encoding R161. -/
def prefixedRowE : List Instr :=
  [.set_4_B, .set_4_C, .set_4_D, .set_4_E, .set_4_H, .set_4_L, .set_4_atHL, .set_4_A, .set_5_B, .set_5_C, .set_5_D,
   .set_5_E, .set_5_H, .set_5_L, .set_5_atHL, .set_5_A]

/-- Row Fx of the 0xCB map, 30_encoding R161. -/
def prefixedRowF : List Instr :=
  [.set_6_B, .set_6_C, .set_6_D, .set_6_E, .set_6_H, .set_6_L, .set_6_atHL, .set_6_A, .set_7_B, .set_7_C, .set_7_D,
   .set_7_E, .set_7_H, .set_7_L, .set_7_atHL, .set_7_A]

/-- The unprefixed opcode map, by high nibble (30_encoding R159). -/
def unprefixedMap : List (List MapCell) :=
  [unprefixedRow0, unprefixedRow1, unprefixedRow2, unprefixedRow3, unprefixedRow4, unprefixedRow5, unprefixedRow6,
   unprefixedRow7] ++
  [unprefixedRow8, unprefixedRow9, unprefixedRowA, unprefixedRowB, unprefixedRowC, unprefixedRowD, unprefixedRowE,
   unprefixedRowF]

/-- The 0xCB-prefixed opcode map, by high nibble (30_encoding R161). -/
def prefixedMap : List (List Instr) :=
  [prefixedRow0, prefixedRow1, prefixedRow2, prefixedRow3, prefixedRow4, prefixedRow5, prefixedRow6, prefixedRow7] ++
  [prefixedRow8, prefixedRow9, prefixedRowA, prefixedRowB, prefixedRowC, prefixedRowD, prefixedRowE, prefixedRowF]

/-- The cell of an opcode byte in the unprefixed map. Every byte has one, so the default is never taken. -/
def unprefixedCell (op : Byte) : MapCell :=
  (unprefixedMap.getD (op.toNat / 16) []).getD (op.toNat % 16) (.len1 .nop)

/-- The instruction of the byte after 0xCB. Every byte has one, so the default is never taken. -/
def prefixedInstr (op : Byte) : Instr :=
  (prefixedMap.getD (op.toNat / 16) []).getD (op.toNat % 16) .nop

/-- The length in bytes, told from the first byte alone (30_encoding R164). -/
def opcodeLength (op : Byte) : Nat :=
  if op = 0xCB then 2 else (unprefixedCell op).length

/-- Decode the opcode byte `b0` with the two bytes after it (30_encoding R160). Bytes past the instruction's length are
not looked at. An illegal byte (R162) decodes to its own `illegal_…` constructor. -/
def decode3 (b0 b1 b2 : Byte) : Instr :=
  if b0 = 0xCB then prefixedInstr b1 else (unprefixedCell b0).instr b1 b2

/-- Why a byte string does not decode. -/
inductive DecodeReject where
  /-- The string ends before the instruction does (never in a step: fetch always reads three bytes). -/
  | truncated
  /-- The first byte is one of the eleven that spell no instruction (30_encoding R162). -/
  | unknownOpcode (op : Byte)
  deriving DecidableEq, Repr

/-- Decode the front of a byte string: the instruction and the bytes after it, or a named rejection. Total. -/
def decodeBytes (bs : List Byte) : Except DecodeReject (Instr × List Byte) :=
  match bs with
  | [] => .error .truncated
  | b0 :: rest =>
    let i := decode3 b0 (rest.getD 0 0) (rest.getD 1 0)
    if i.wellFormed then
      if bs.length < opcodeLength b0 then .error .truncated else .ok (i, bs.drop (opcodeLength b0))
    else .error (.unknownOpcode b0)

/-- The bytes an instruction word of spec/opcode_table.json stands for, first byte first, padded with zeros to three.
A one-byte row is its byte. The table writes a prefixed row as 0xCBnn, the prefix in bits 15 to 8, and the spec's words
(30_encoding R151, FCB) say the prefix comes first; so a wider word whose bits 15 to 8 are 0xCB has that byte first (log 7).
Any other word has its low byte first. -/
def tableBytes (nbits w : Nat) : Byte × Byte × Byte :=
  let v := w % 2 ^ nbits
  let lo := BitVec.ofNat 8 v
  let mid := BitVec.ofNat 8 (v / 256)
  let hi := BitVec.ofNat 8 (v / 65536)
  if 8 < nbits ∧ mid = 0xCB then (mid, lo, hi) else (lo, mid, hi)

/-- The instruction the decoder reads from a table word (log 7). Every byte string of three bytes decodes. -/
def decodeTableWord (nbits w : Nat) : Option Instr :=
  let b := tableBytes nbits w
  some (decode3 b.1 b.2.1 b.2.2)

/-- An instruction with a one-byte immediate after its opcode (30_encoding R151, F2). -/
def encodeF2 (op imm : Byte) : List Byte := [op, imm]

/-- An instruction with a two-byte immediate, low byte first (30_encoding R151, F3). -/
def encodeF3 (op : Byte) (imm : Word) : List Byte := [op, imm.extractLsb' 0 8, imm.extractLsb' 8 8]

/-- A prefixed instruction (30_encoding R151, FCB). -/
def encodeFCB (op : Byte) : List Byte := [0xCB, op]

/-- The bytes of an instruction, from the maps of 30_encoding R159 and R161. -/
def encode : Instr → List Byte
  | .nop => [0x00]
  | .ld_BC_d16 n => encodeF3 0x01 n
  | .ld_atBC_A => [0x02]
  | .inc_BC => [0x03]
  | .inc_B => [0x04]
  | .dec_B => [0x05]
  | .ld_B_d8 n => encodeF2 0x06 n
  | .rlca => [0x07]
  | .ld_atA16_SP n => encodeF3 0x08 n
  | .add_HL_BC => [0x09]
  | .ld_A_atBC => [0x0A]
  | .dec_BC => [0x0B]
  | .inc_C => [0x0C]
  | .dec_C => [0x0D]
  | .ld_C_d8 n => encodeF2 0x0E n
  | .rrca => [0x0F]
  | .stop n => encodeF2 0x10 n
  | .ld_DE_d16 n => encodeF3 0x11 n
  | .ld_atDE_A => [0x12]
  | .inc_DE => [0x13]
  | .inc_D => [0x14]
  | .dec_D => [0x15]
  | .ld_D_d8 n => encodeF2 0x16 n
  | .rla => [0x17]
  | .jr_e8 n => encodeF2 0x18 n
  | .add_HL_DE => [0x19]
  | .ld_A_atDE => [0x1A]
  | .dec_DE => [0x1B]
  | .inc_E => [0x1C]
  | .dec_E => [0x1D]
  | .ld_E_d8 n => encodeF2 0x1E n
  | .rra => [0x1F]
  | .jr_NZ_e8 n => encodeF2 0x20 n
  | .ld_HL_d16 n => encodeF3 0x21 n
  | .ld_atHLinc_A => [0x22]
  | .inc_HL => [0x23]
  | .inc_H => [0x24]
  | .dec_H => [0x25]
  | .ld_H_d8 n => encodeF2 0x26 n
  | .daa => [0x27]
  | .jr_Z_e8 n => encodeF2 0x28 n
  | .add_HL_HL => [0x29]
  | .ld_A_atHLinc => [0x2A]
  | .dec_HL => [0x2B]
  | .inc_L => [0x2C]
  | .dec_L => [0x2D]
  | .ld_L_d8 n => encodeF2 0x2E n
  | .cpl => [0x2F]
  | .jr_NC_e8 n => encodeF2 0x30 n
  | .ld_SP_d16 n => encodeF3 0x31 n
  | .ld_atHLdec_A => [0x32]
  | .inc_SP => [0x33]
  | .inc_atHL => [0x34]
  | .dec_atHL => [0x35]
  | .ld_atHL_d8 n => encodeF2 0x36 n
  | .scf => [0x37]
  | .jr_C_e8 n => encodeF2 0x38 n
  | .add_HL_SP => [0x39]
  | .ld_A_atHLdec => [0x3A]
  | .dec_SP => [0x3B]
  | .inc_A => [0x3C]
  | .dec_A => [0x3D]
  | .ld_A_d8 n => encodeF2 0x3E n
  | .ccf => [0x3F]
  | .ld_B_B => [0x40]
  | .ld_B_C => [0x41]
  | .ld_B_D => [0x42]
  | .ld_B_E => [0x43]
  | .ld_B_H => [0x44]
  | .ld_B_L => [0x45]
  | .ld_B_atHL => [0x46]
  | .ld_B_A => [0x47]
  | .ld_C_B => [0x48]
  | .ld_C_C => [0x49]
  | .ld_C_D => [0x4A]
  | .ld_C_E => [0x4B]
  | .ld_C_H => [0x4C]
  | .ld_C_L => [0x4D]
  | .ld_C_atHL => [0x4E]
  | .ld_C_A => [0x4F]
  | .ld_D_B => [0x50]
  | .ld_D_C => [0x51]
  | .ld_D_D => [0x52]
  | .ld_D_E => [0x53]
  | .ld_D_H => [0x54]
  | .ld_D_L => [0x55]
  | .ld_D_atHL => [0x56]
  | .ld_D_A => [0x57]
  | .ld_E_B => [0x58]
  | .ld_E_C => [0x59]
  | .ld_E_D => [0x5A]
  | .ld_E_E => [0x5B]
  | .ld_E_H => [0x5C]
  | .ld_E_L => [0x5D]
  | .ld_E_atHL => [0x5E]
  | .ld_E_A => [0x5F]
  | .ld_H_B => [0x60]
  | .ld_H_C => [0x61]
  | .ld_H_D => [0x62]
  | .ld_H_E => [0x63]
  | .ld_H_H => [0x64]
  | .ld_H_L => [0x65]
  | .ld_H_atHL => [0x66]
  | .ld_H_A => [0x67]
  | .ld_L_B => [0x68]
  | .ld_L_C => [0x69]
  | .ld_L_D => [0x6A]
  | .ld_L_E => [0x6B]
  | .ld_L_H => [0x6C]
  | .ld_L_L => [0x6D]
  | .ld_L_atHL => [0x6E]
  | .ld_L_A => [0x6F]
  | .ld_atHL_B => [0x70]
  | .ld_atHL_C => [0x71]
  | .ld_atHL_D => [0x72]
  | .ld_atHL_E => [0x73]
  | .ld_atHL_H => [0x74]
  | .ld_atHL_L => [0x75]
  | .halt => [0x76]
  | .ld_atHL_A => [0x77]
  | .ld_A_B => [0x78]
  | .ld_A_C => [0x79]
  | .ld_A_D => [0x7A]
  | .ld_A_E => [0x7B]
  | .ld_A_H => [0x7C]
  | .ld_A_L => [0x7D]
  | .ld_A_atHL => [0x7E]
  | .ld_A_A => [0x7F]
  | .add_A_B => [0x80]
  | .add_A_C => [0x81]
  | .add_A_D => [0x82]
  | .add_A_E => [0x83]
  | .add_A_H => [0x84]
  | .add_A_L => [0x85]
  | .add_A_atHL => [0x86]
  | .add_A_A => [0x87]
  | .adc_A_B => [0x88]
  | .adc_A_C => [0x89]
  | .adc_A_D => [0x8A]
  | .adc_A_E => [0x8B]
  | .adc_A_H => [0x8C]
  | .adc_A_L => [0x8D]
  | .adc_A_atHL => [0x8E]
  | .adc_A_A => [0x8F]
  | .sub_B => [0x90]
  | .sub_C => [0x91]
  | .sub_D => [0x92]
  | .sub_E => [0x93]
  | .sub_H => [0x94]
  | .sub_L => [0x95]
  | .sub_atHL => [0x96]
  | .sub_A => [0x97]
  | .sbc_A_B => [0x98]
  | .sbc_A_C => [0x99]
  | .sbc_A_D => [0x9A]
  | .sbc_A_E => [0x9B]
  | .sbc_A_H => [0x9C]
  | .sbc_A_L => [0x9D]
  | .sbc_A_atHL => [0x9E]
  | .sbc_A_A => [0x9F]
  | .and_B => [0xA0]
  | .and_C => [0xA1]
  | .and_D => [0xA2]
  | .and_E => [0xA3]
  | .and_H => [0xA4]
  | .and_L => [0xA5]
  | .and_atHL => [0xA6]
  | .and_A => [0xA7]
  | .xor_B => [0xA8]
  | .xor_C => [0xA9]
  | .xor_D => [0xAA]
  | .xor_E => [0xAB]
  | .xor_H => [0xAC]
  | .xor_L => [0xAD]
  | .xor_atHL => [0xAE]
  | .xor_A => [0xAF]
  | .or_B => [0xB0]
  | .or_C => [0xB1]
  | .or_D => [0xB2]
  | .or_E => [0xB3]
  | .or_H => [0xB4]
  | .or_L => [0xB5]
  | .or_atHL => [0xB6]
  | .or_A => [0xB7]
  | .cp_B => [0xB8]
  | .cp_C => [0xB9]
  | .cp_D => [0xBA]
  | .cp_E => [0xBB]
  | .cp_H => [0xBC]
  | .cp_L => [0xBD]
  | .cp_atHL => [0xBE]
  | .cp_A => [0xBF]
  | .ret_NZ => [0xC0]
  | .pop_BC => [0xC1]
  | .jp_NZ_a16 n => encodeF3 0xC2 n
  | .jp_a16 n => encodeF3 0xC3 n
  | .call_NZ_a16 n => encodeF3 0xC4 n
  | .push_BC => [0xC5]
  | .add_A_d8 n => encodeF2 0xC6 n
  | .rst_00H => [0xC7]
  | .ret_Z => [0xC8]
  | .ret => [0xC9]
  | .jp_Z_a16 n => encodeF3 0xCA n
  | .call_Z_a16 n => encodeF3 0xCC n
  | .call_a16 n => encodeF3 0xCD n
  | .adc_A_d8 n => encodeF2 0xCE n
  | .rst_08H => [0xCF]
  | .ret_NC => [0xD0]
  | .pop_DE => [0xD1]
  | .jp_NC_a16 n => encodeF3 0xD2 n
  | .illegal_D3 => [0xD3]
  | .call_NC_a16 n => encodeF3 0xD4 n
  | .push_DE => [0xD5]
  | .sub_d8 n => encodeF2 0xD6 n
  | .rst_10H => [0xD7]
  | .ret_C => [0xD8]
  | .reti => [0xD9]
  | .jp_C_a16 n => encodeF3 0xDA n
  | .illegal_DB => [0xDB]
  | .call_C_a16 n => encodeF3 0xDC n
  | .illegal_DD => [0xDD]
  | .sbc_A_d8 n => encodeF2 0xDE n
  | .rst_18H => [0xDF]
  | .ldh_atA8_A n => encodeF2 0xE0 n
  | .pop_HL => [0xE1]
  | .ld_atC_A => [0xE2]
  | .illegal_E3 => [0xE3]
  | .illegal_E4 => [0xE4]
  | .push_HL => [0xE5]
  | .and_d8 n => encodeF2 0xE6 n
  | .rst_20H => [0xE7]
  | .add_SP_e8 n => encodeF2 0xE8 n
  | .jp_HL => [0xE9]
  | .ld_atA16_A n => encodeF3 0xEA n
  | .illegal_EB => [0xEB]
  | .illegal_EC => [0xEC]
  | .illegal_ED => [0xED]
  | .xor_d8 n => encodeF2 0xEE n
  | .rst_28H => [0xEF]
  | .ldh_A_atA8 n => encodeF2 0xF0 n
  | .pop_AF => [0xF1]
  | .ld_A_atC => [0xF2]
  | .di => [0xF3]
  | .illegal_F4 => [0xF4]
  | .push_AF => [0xF5]
  | .or_d8 n => encodeF2 0xF6 n
  | .rst_30H => [0xF7]
  | .ld_HL_SPe8 n => encodeF2 0xF8 n
  | .ld_SP_HL => [0xF9]
  | .ld_A_atA16 n => encodeF3 0xFA n
  | .ei => [0xFB]
  | .illegal_FC => [0xFC]
  | .illegal_FD => [0xFD]
  | .cp_d8 n => encodeF2 0xFE n
  | .rst_38H => [0xFF]
  | .rlc_B => encodeFCB 0x00
  | .rlc_C => encodeFCB 0x01
  | .rlc_D => encodeFCB 0x02
  | .rlc_E => encodeFCB 0x03
  | .rlc_H => encodeFCB 0x04
  | .rlc_L => encodeFCB 0x05
  | .rlc_atHL => encodeFCB 0x06
  | .rlc_A => encodeFCB 0x07
  | .rrc_B => encodeFCB 0x08
  | .rrc_C => encodeFCB 0x09
  | .rrc_D => encodeFCB 0x0A
  | .rrc_E => encodeFCB 0x0B
  | .rrc_H => encodeFCB 0x0C
  | .rrc_L => encodeFCB 0x0D
  | .rrc_atHL => encodeFCB 0x0E
  | .rrc_A => encodeFCB 0x0F
  | .rl_B => encodeFCB 0x10
  | .rl_C => encodeFCB 0x11
  | .rl_D => encodeFCB 0x12
  | .rl_E => encodeFCB 0x13
  | .rl_H => encodeFCB 0x14
  | .rl_L => encodeFCB 0x15
  | .rl_atHL => encodeFCB 0x16
  | .rl_A => encodeFCB 0x17
  | .rr_B => encodeFCB 0x18
  | .rr_C => encodeFCB 0x19
  | .rr_D => encodeFCB 0x1A
  | .rr_E => encodeFCB 0x1B
  | .rr_H => encodeFCB 0x1C
  | .rr_L => encodeFCB 0x1D
  | .rr_atHL => encodeFCB 0x1E
  | .rr_A => encodeFCB 0x1F
  | .sla_B => encodeFCB 0x20
  | .sla_C => encodeFCB 0x21
  | .sla_D => encodeFCB 0x22
  | .sla_E => encodeFCB 0x23
  | .sla_H => encodeFCB 0x24
  | .sla_L => encodeFCB 0x25
  | .sla_atHL => encodeFCB 0x26
  | .sla_A => encodeFCB 0x27
  | .sra_B => encodeFCB 0x28
  | .sra_C => encodeFCB 0x29
  | .sra_D => encodeFCB 0x2A
  | .sra_E => encodeFCB 0x2B
  | .sra_H => encodeFCB 0x2C
  | .sra_L => encodeFCB 0x2D
  | .sra_atHL => encodeFCB 0x2E
  | .sra_A => encodeFCB 0x2F
  | .swap_B => encodeFCB 0x30
  | .swap_C => encodeFCB 0x31
  | .swap_D => encodeFCB 0x32
  | .swap_E => encodeFCB 0x33
  | .swap_H => encodeFCB 0x34
  | .swap_L => encodeFCB 0x35
  | .swap_atHL => encodeFCB 0x36
  | .swap_A => encodeFCB 0x37
  | .srl_B => encodeFCB 0x38
  | .srl_C => encodeFCB 0x39
  | .srl_D => encodeFCB 0x3A
  | .srl_E => encodeFCB 0x3B
  | .srl_H => encodeFCB 0x3C
  | .srl_L => encodeFCB 0x3D
  | .srl_atHL => encodeFCB 0x3E
  | .srl_A => encodeFCB 0x3F
  | .bit_0_B => encodeFCB 0x40
  | .bit_0_C => encodeFCB 0x41
  | .bit_0_D => encodeFCB 0x42
  | .bit_0_E => encodeFCB 0x43
  | .bit_0_H => encodeFCB 0x44
  | .bit_0_L => encodeFCB 0x45
  | .bit_0_atHL => encodeFCB 0x46
  | .bit_0_A => encodeFCB 0x47
  | .bit_1_B => encodeFCB 0x48
  | .bit_1_C => encodeFCB 0x49
  | .bit_1_D => encodeFCB 0x4A
  | .bit_1_E => encodeFCB 0x4B
  | .bit_1_H => encodeFCB 0x4C
  | .bit_1_L => encodeFCB 0x4D
  | .bit_1_atHL => encodeFCB 0x4E
  | .bit_1_A => encodeFCB 0x4F
  | .bit_2_B => encodeFCB 0x50
  | .bit_2_C => encodeFCB 0x51
  | .bit_2_D => encodeFCB 0x52
  | .bit_2_E => encodeFCB 0x53
  | .bit_2_H => encodeFCB 0x54
  | .bit_2_L => encodeFCB 0x55
  | .bit_2_atHL => encodeFCB 0x56
  | .bit_2_A => encodeFCB 0x57
  | .bit_3_B => encodeFCB 0x58
  | .bit_3_C => encodeFCB 0x59
  | .bit_3_D => encodeFCB 0x5A
  | .bit_3_E => encodeFCB 0x5B
  | .bit_3_H => encodeFCB 0x5C
  | .bit_3_L => encodeFCB 0x5D
  | .bit_3_atHL => encodeFCB 0x5E
  | .bit_3_A => encodeFCB 0x5F
  | .bit_4_B => encodeFCB 0x60
  | .bit_4_C => encodeFCB 0x61
  | .bit_4_D => encodeFCB 0x62
  | .bit_4_E => encodeFCB 0x63
  | .bit_4_H => encodeFCB 0x64
  | .bit_4_L => encodeFCB 0x65
  | .bit_4_atHL => encodeFCB 0x66
  | .bit_4_A => encodeFCB 0x67
  | .bit_5_B => encodeFCB 0x68
  | .bit_5_C => encodeFCB 0x69
  | .bit_5_D => encodeFCB 0x6A
  | .bit_5_E => encodeFCB 0x6B
  | .bit_5_H => encodeFCB 0x6C
  | .bit_5_L => encodeFCB 0x6D
  | .bit_5_atHL => encodeFCB 0x6E
  | .bit_5_A => encodeFCB 0x6F
  | .bit_6_B => encodeFCB 0x70
  | .bit_6_C => encodeFCB 0x71
  | .bit_6_D => encodeFCB 0x72
  | .bit_6_E => encodeFCB 0x73
  | .bit_6_H => encodeFCB 0x74
  | .bit_6_L => encodeFCB 0x75
  | .bit_6_atHL => encodeFCB 0x76
  | .bit_6_A => encodeFCB 0x77
  | .bit_7_B => encodeFCB 0x78
  | .bit_7_C => encodeFCB 0x79
  | .bit_7_D => encodeFCB 0x7A
  | .bit_7_E => encodeFCB 0x7B
  | .bit_7_H => encodeFCB 0x7C
  | .bit_7_L => encodeFCB 0x7D
  | .bit_7_atHL => encodeFCB 0x7E
  | .bit_7_A => encodeFCB 0x7F
  | .res_0_B => encodeFCB 0x80
  | .res_0_C => encodeFCB 0x81
  | .res_0_D => encodeFCB 0x82
  | .res_0_E => encodeFCB 0x83
  | .res_0_H => encodeFCB 0x84
  | .res_0_L => encodeFCB 0x85
  | .res_0_atHL => encodeFCB 0x86
  | .res_0_A => encodeFCB 0x87
  | .res_1_B => encodeFCB 0x88
  | .res_1_C => encodeFCB 0x89
  | .res_1_D => encodeFCB 0x8A
  | .res_1_E => encodeFCB 0x8B
  | .res_1_H => encodeFCB 0x8C
  | .res_1_L => encodeFCB 0x8D
  | .res_1_atHL => encodeFCB 0x8E
  | .res_1_A => encodeFCB 0x8F
  | .res_2_B => encodeFCB 0x90
  | .res_2_C => encodeFCB 0x91
  | .res_2_D => encodeFCB 0x92
  | .res_2_E => encodeFCB 0x93
  | .res_2_H => encodeFCB 0x94
  | .res_2_L => encodeFCB 0x95
  | .res_2_atHL => encodeFCB 0x96
  | .res_2_A => encodeFCB 0x97
  | .res_3_B => encodeFCB 0x98
  | .res_3_C => encodeFCB 0x99
  | .res_3_D => encodeFCB 0x9A
  | .res_3_E => encodeFCB 0x9B
  | .res_3_H => encodeFCB 0x9C
  | .res_3_L => encodeFCB 0x9D
  | .res_3_atHL => encodeFCB 0x9E
  | .res_3_A => encodeFCB 0x9F
  | .res_4_B => encodeFCB 0xA0
  | .res_4_C => encodeFCB 0xA1
  | .res_4_D => encodeFCB 0xA2
  | .res_4_E => encodeFCB 0xA3
  | .res_4_H => encodeFCB 0xA4
  | .res_4_L => encodeFCB 0xA5
  | .res_4_atHL => encodeFCB 0xA6
  | .res_4_A => encodeFCB 0xA7
  | .res_5_B => encodeFCB 0xA8
  | .res_5_C => encodeFCB 0xA9
  | .res_5_D => encodeFCB 0xAA
  | .res_5_E => encodeFCB 0xAB
  | .res_5_H => encodeFCB 0xAC
  | .res_5_L => encodeFCB 0xAD
  | .res_5_atHL => encodeFCB 0xAE
  | .res_5_A => encodeFCB 0xAF
  | .res_6_B => encodeFCB 0xB0
  | .res_6_C => encodeFCB 0xB1
  | .res_6_D => encodeFCB 0xB2
  | .res_6_E => encodeFCB 0xB3
  | .res_6_H => encodeFCB 0xB4
  | .res_6_L => encodeFCB 0xB5
  | .res_6_atHL => encodeFCB 0xB6
  | .res_6_A => encodeFCB 0xB7
  | .res_7_B => encodeFCB 0xB8
  | .res_7_C => encodeFCB 0xB9
  | .res_7_D => encodeFCB 0xBA
  | .res_7_E => encodeFCB 0xBB
  | .res_7_H => encodeFCB 0xBC
  | .res_7_L => encodeFCB 0xBD
  | .res_7_atHL => encodeFCB 0xBE
  | .res_7_A => encodeFCB 0xBF
  | .set_0_B => encodeFCB 0xC0
  | .set_0_C => encodeFCB 0xC1
  | .set_0_D => encodeFCB 0xC2
  | .set_0_E => encodeFCB 0xC3
  | .set_0_H => encodeFCB 0xC4
  | .set_0_L => encodeFCB 0xC5
  | .set_0_atHL => encodeFCB 0xC6
  | .set_0_A => encodeFCB 0xC7
  | .set_1_B => encodeFCB 0xC8
  | .set_1_C => encodeFCB 0xC9
  | .set_1_D => encodeFCB 0xCA
  | .set_1_E => encodeFCB 0xCB
  | .set_1_H => encodeFCB 0xCC
  | .set_1_L => encodeFCB 0xCD
  | .set_1_atHL => encodeFCB 0xCE
  | .set_1_A => encodeFCB 0xCF
  | .set_2_B => encodeFCB 0xD0
  | .set_2_C => encodeFCB 0xD1
  | .set_2_D => encodeFCB 0xD2
  | .set_2_E => encodeFCB 0xD3
  | .set_2_H => encodeFCB 0xD4
  | .set_2_L => encodeFCB 0xD5
  | .set_2_atHL => encodeFCB 0xD6
  | .set_2_A => encodeFCB 0xD7
  | .set_3_B => encodeFCB 0xD8
  | .set_3_C => encodeFCB 0xD9
  | .set_3_D => encodeFCB 0xDA
  | .set_3_E => encodeFCB 0xDB
  | .set_3_H => encodeFCB 0xDC
  | .set_3_L => encodeFCB 0xDD
  | .set_3_atHL => encodeFCB 0xDE
  | .set_3_A => encodeFCB 0xDF
  | .set_4_B => encodeFCB 0xE0
  | .set_4_C => encodeFCB 0xE1
  | .set_4_D => encodeFCB 0xE2
  | .set_4_E => encodeFCB 0xE3
  | .set_4_H => encodeFCB 0xE4
  | .set_4_L => encodeFCB 0xE5
  | .set_4_atHL => encodeFCB 0xE6
  | .set_4_A => encodeFCB 0xE7
  | .set_5_B => encodeFCB 0xE8
  | .set_5_C => encodeFCB 0xE9
  | .set_5_D => encodeFCB 0xEA
  | .set_5_E => encodeFCB 0xEB
  | .set_5_H => encodeFCB 0xEC
  | .set_5_L => encodeFCB 0xED
  | .set_5_atHL => encodeFCB 0xEE
  | .set_5_A => encodeFCB 0xEF
  | .set_6_B => encodeFCB 0xF0
  | .set_6_C => encodeFCB 0xF1
  | .set_6_D => encodeFCB 0xF2
  | .set_6_E => encodeFCB 0xF3
  | .set_6_H => encodeFCB 0xF4
  | .set_6_L => encodeFCB 0xF5
  | .set_6_atHL => encodeFCB 0xF6
  | .set_6_A => encodeFCB 0xF7
  | .set_7_B => encodeFCB 0xF8
  | .set_7_C => encodeFCB 0xF9
  | .set_7_D => encodeFCB 0xFA
  | .set_7_E => encodeFCB 0xFB
  | .set_7_H => encodeFCB 0xFC
  | .set_7_L => encodeFCB 0xFD
  | .set_7_atHL => encodeFCB 0xFE
  | .set_7_A => encodeFCB 0xFF

end Sys2Proof
end

