-- ==== Sys2Proof/Machine/State.lean ====
section
/-! DEFINITION. The state of the machine: every piece of state the spec gives it (10_state R50 to R88), as plain data, with
its value at power-on (R86, 70_reset R600). INVENTORY.md lists each field with its rule. -/

namespace Sys2Proof.Machine

/-- The one synchronous exception of the machine (60_exceptions R540, cause code 1), as `State.fault` records it: the byte
fetched as an opcode and its address. Raised by the eleven `illegal_…` instructions, as a NEXT state with `fault` set
(log 4); no step answers the outcome `fault`. Safe: the faulted machine stands still, as R500 says. -/
inductive Fault where
  /-- Raised by the fetch of one of the eleven illegal bytes (30_encoding R162). Safe. -/
  | unknownOpcode (opcode : Byte) (pc : Word)
  deriving DecidableEq, Repr

/-- Why an instruction has no meaning. -/
inductive Refusal where
  /-- Raised by an arm of `exec` whose instruction is not modelled yet; no arm is, so nothing raises it. Safe. -/
  | notModelled (mnemonic : String)
  deriving DecidableEq, Repr

/-- The eight 8-bit register names (10_state R50). -/
inductive Reg8 where
  | a | f | b | c | d | e | h | l
  deriving DecidableEq, Repr

/-- The six 16-bit register names: four views over the 8-bit slots, and SP and PC (10_state R50). -/
inductive Reg16 where
  | af | bc | de | hl | sp | pc
  deriving DecidableEq, Repr

/-- The eight buttons of the joypad (10_state R66). -/
inductive Button where
  | up | down | left | right | a | b | select | start
  deriving DecidableEq, Repr

/-- `buttons`: true while the button is pressed (10_state R66). -/
structure Buttons where
  up : Bool := false
  down : Bool := false
  left : Bool := false
  right : Bool := false
  a : Bool := false
  b : Bool := false
  select : Bool := false
  start : Bool := false
  deriving DecidableEq, Repr

/-- `memory`, 65536 byte cells (10_state R63, 20_memory R100): the cells that are not 0x00, by rising address. An unlisted
cell holds 0x00, the spec's power-on value (10_state R86; log 3). -/
abbrev Memory := List Host.Cell

/-- 144 lines of 160 shades (10_state R67): the lines that are not all shade 0, by rising line number (log 10). -/
abbrev Frame := List (Nat × List Shade)

/-- The state of the machine. -/
structure State where
  /-- The accumulator A (10_state R50, R57). -/
  a : Byte := 0
  /-- The flag register F: Z N H C in bits 7 to 4, bits 3 to 0 always 0 (10_state R55). -/
  f : Byte := 0
  b : Byte := 0
  c : Byte := 0
  d : Byte := 0
  e : Byte := 0
  h : Byte := 0
  l : Byte := 0
  /-- The stack pointer (10_state R60). -/
  sp : Word := 0
  /-- The program counter (10_state R59). -/
  pc : Word := 0
  /-- Interrupt Master Enable (10_state R61). -/
  ime : Bool := false
  /-- The CPU waits for an interrupt (10_state R61, 60 R530). -/
  halted : Bool := false
  /-- The CPU waits for a button press (10_state R61, 60 R535). -/
  stopped : Bool := false
  /-- An EI whose effect is still to come, only when `EI_DELAY` (10_state R61, 60 R503). -/
  eiPending : Bool := false
  /-- The next opcode fetch does not advance PC, only when `HALT_BUG` (10_state R61, 60 R531). -/
  haltBug : Bool := false
  /-- The fatal outcome of 60 R540, cleared only by reset (10_state R61). -/
  fault : Option Fault := none
  /-- The 65536 cells (10_state R63), the control registers of R68 among them. -/
  mem : Memory := []
  /-- The boot-ROM image, if one was loaded (10_state R63, 20_memory R111). -/
  bootRom : Option (List Byte) := none
  /-- The whole cartridge image (10_state R63, 20_memory R104). -/
  rom : List Byte := []
  /-- The cartridge is MBC1-class, fixed at load (10_state R63, 20_memory R130). -/
  mbc1 : Bool := false
  /-- The MBC1 ROM bank register, 5 bits (10_state R63, 20_memory R122). -/
  romBank : BitVec 5 := 1
  /-- The 16-bit divider; DIV is its high byte (10_state R64, R71). -/
  div : Word := 0
  /-- The joypad's buttons (10_state R66). -/
  buttons : Buttons := {}
  /-- The PPU's position in the line, 0 to 455 (10_state R67). -/
  dot : Nat := 0
  /-- The PPU's line, 0 to 153 (10_state R67). -/
  line : Nat := 0
  /-- The window's line counter (10_state R67, 60 R579). -/
  windowLine : Byte := 0
  /-- The last value of the STAT interrupt line (10_state R67, 60 R575). -/
  statLine : Bool := false
  /-- The lines drawn so far (10_state R67). -/
  framebuffer : Frame := []
  /-- Frames completed (10_state R67, 60 R572). -/
  frameCount : Nat := 0
  /-- The frame last presented (60 R572, R590; log 8). -/
  presented : Frame := []
  /-- What the serial debug hook was given, oldest first (60 R553, R596; log 8). -/
  serialOut : List Byte := []
  /-- The running total of cycles charged (60 R596; log 8). -/
  cycles : Nat := 0
  /-- The named parameters of 00_scope R10 (log 1). -/
  cfg : Config := {}
  deriving DecidableEq, Repr

/-- Power-on with the given parameters: every piece of state at its 10_state R86 value (70_reset R600). -/
def State.powerOn (cfg : Config) : State := { cfg := cfg }

/-- The machine right after reset, no image loaded and the parameters at their defaults (70_reset R600; log 2).
`State.boot` of Machine/Boot.lean goes on with the load and the two boot paths of 70_reset R601 to R610. -/
def State.reset : State := State.powerOn {}

/-- The outcome of a meaning or of a step. -/
abbrev Result := Host.Outcome State Fault Refusal

end Sys2Proof.Machine
end

