-- ==== Sys2Proof/Machine/Flags.lean ====
section
/-! DEFINITION. The flags of F (10_state R55, R56) and every flag computation of the spec: the 8-bit adders (41_alu8 R200),
the logic operations, INC and DEC, DAA (R230), the 16-bit sums (42_alu16 R250, R253), the rotates and shifts (43 R269), and
the bit test (44 R300). Sums are computed exactly and narrowed at the end (00_scope R11). -/

namespace Sys2Proof.Machine

/-! ## F -/

/-- F from its four flags, bits 3 to 0 zero (10_state R55). -/
def packFlags (z n h c : Bool) : Byte :=
  BitVec.ofBool z ++ BitVec.ofBool n ++ BitVec.ofBool h ++ BitVec.ofBool c ++ (0 : BitVec 4)

/-- `F.Z`, bit 7. -/
def State.flagZ (s : State) : Bool := s.f.getLsbD 7

/-- `F.N`, bit 6. -/
def State.flagN (s : State) : Bool := s.f.getLsbD 6

/-- `F.H`, bit 5. -/
def State.flagH (s : State) : Bool := s.f.getLsbD 5

/-- `F.C`, bit 4. -/
def State.flagC (s : State) : Bool := s.f.getLsbD 4

/-- Write all four flags. -/
def State.putFlags (s : State) (z n h c : Bool) : State := { s with f := packFlags z n h c }

/-- The four flag names (10_state R55). -/
inductive Flag where
  | zero | subtraction | halfCarry | carry
  deriving DecidableEq, Repr

/-- `getFlag(flag)` (10_state R55). -/
def State.getFlag (s : State) : Flag → Bool
  | .zero => s.flagZ
  | .subtraction => s.flagN
  | .halfCarry => s.flagH
  | .carry => s.flagC

/-- `setFlag(flag, b)`: one bit, the other three unchanged (10_state R56). -/
def State.setFlag (s : State) (fl : Flag) (b : Bool) : State :=
  match fl with
  | .zero => s.putFlags b s.flagN s.flagH s.flagC
  | .subtraction => s.putFlags s.flagZ b s.flagH s.flagC
  | .halfCarry => s.putFlags s.flagZ s.flagN b s.flagC
  | .carry => s.putFlags s.flagZ s.flagN s.flagH b

/-! ## 8-bit sums (41_alu8 R200) -/

/-- The result of an 8-bit adder. -/
structure Sum8 where
  value : Byte
  zero : Bool
  half : Bool
  carry : Bool
  deriving DecidableEq, Repr

/-- The low nibble as a number. -/
def nibble (v : Byte) : Nat := v.toNat % 16

/-- `add8(a, b, c)` (41_alu8 R200). -/
def add8 (a b : Byte) (c : Bool) : Sum8 :=
  let full := a.toNat + b.toNat + c.toNat
  let value := BitVec.ofNat 8 full
  { value := value, zero := value == 0, half := decide (nibble a + nibble b + c.toNat > 0xF),
    carry := decide (full > 0xFF) }

/-- `sub8(a, b, c)`; H and C are borrows (41_alu8 R200). -/
def sub8 (a b : Byte) (c : Bool) : Sum8 :=
  let full : Int := a.toNat - b.toNat - c.toNat
  let value := BitVec.ofInt 8 full
  { value := value, zero := value == 0, half := decide ((nibble a : Int) - nibble b - c.toNat < 0),
    carry := decide (full < 0) }

/-- DAA: the adjusted value and the new carry, from A, N, H and C (41_alu8 R230, 90 C5). -/
def daaAdjust (a : Byte) (n h c : Bool) : Byte × Bool :=
  if n then
    let a1 : Int := if c then (a.toNat : Int) - 0x60 else a.toNat
    let a2 : Int := if h then a1 - 0x06 else a1
    (BitVec.ofInt 8 a2, c)
  else
    let hi := c || decide (a.toNat > 0x99)
    let a1 := if hi then a.toNat + 0x60 else a.toNat
    let a2 := if h || decide (a1 % 16 > 9) then a1 + 0x06 else a1
    (BitVec.ofNat 8 a2, hi)

/-! ## 16-bit sums -/

/-- H of ADD HL,rr: the carry out of bit 11 (42_alu16 R250). -/
def half16 (a b : Word) : Bool := decide (a.toNat % 0x1000 + b.toNat % 0x1000 > 0xFFF)

/-- C of ADD HL,rr: the carry out of bit 15 (42_alu16 R250). -/
def carry16 (a b : Word) : Bool := decide (a.toNat + b.toNat > 0xFFFF)

/-- H of ADD SP,e8 and LD HL,SP+e8: the carry out of bit 3 of the unsigned low-byte sum (42_alu16 R253). -/
def halfSp (sp : Word) (imm : Byte) : Bool := decide (sp.toNat % 16 + imm.toNat % 16 > 0xF)

/-- C of ADD SP,e8 and LD HL,SP+e8: the carry out of bit 7 of the unsigned low-byte sum (42_alu16 R253). -/
def carrySp (sp : Word) (imm : Byte) : Bool := decide (sp.toNat % 256 + imm.toNat > 0xFF)

/-! ## Rotates and shifts (43_rotate_shift R269) -/

/-- The eight operations, in the order of 30_encoding R157. -/
inductive RotOp where
  | rlc | rrc | rl | rr | sla | sra | swap | srl
  deriving DecidableEq, Repr

/-- `rot(op, v, cin)`: the result and the bit shifted out (43_rotate_shift R269). -/
def rot (op : RotOp) (v : Byte) (cin : Bool) : Byte × Bool :=
  match op with
  | .rlc => (v.extractLsb' 0 7 ++ v.extractLsb' 7 1, v.getLsbD 7)
  | .rrc => (v.extractLsb' 0 1 ++ v.extractLsb' 1 7, v.getLsbD 0)
  | .rl => (v.extractLsb' 0 7 ++ BitVec.ofBool cin, v.getLsbD 7)
  | .rr => (BitVec.ofBool cin ++ v.extractLsb' 1 7, v.getLsbD 0)
  | .sla => (v.extractLsb' 0 7 ++ (0 : BitVec 1), v.getLsbD 7)
  | .sra => (v.extractLsb' 7 1 ++ v.extractLsb' 1 7, v.getLsbD 0)
  | .swap => (v.extractLsb' 0 4 ++ v.extractLsb' 4 4, false)
  | .srl => ((0 : BitVec 1) ++ v.extractLsb' 1 7, v.getLsbD 0)

/-! ## Bits (44_bit_ops) -/

/-- `1 << b` as a byte. -/
def bitMask (b : Nat) : Byte := BitVec.ofNat 8 (2 ^ b)

end Sys2Proof.Machine
end

