-- ==== Sys2Proof/Machine/Ops.lean ====
section
/-! DEFINITION. The named operations over memory and registers: the sparse map that holds memory and frames, the registers
(10_state R50 to R60), the bus primitives readByte and writeByte (20_memory R110, R120), the stack (47_stack R390), taking an
interrupt and returning from one (60_exceptions R516, R518), the decode fault (R540), and how an instruction retires
(30_encoding R160). -/

namespace Sys2Proof.Machine

/-! ## The sparse map -/

/-- The value at a key; an unlisted key holds `dflt`. -/
def sparseGet {α : Type} (dflt : α) : List (Nat × α) → Nat → α
  | [], _ => dflt
  | (k, v) :: m, x => if x = k then v else sparseGet dflt m x

/-- The map with `v` at key `x`, in canonical form when `m` is: keys rising, no entry equal to `dflt`. -/
def sparseSet {α : Type} [DecidableEq α] (dflt : α) : List (Nat × α) → Nat → α → List (Nat × α)
  | [], x, v => if v = dflt then [] else [(x, v)]
  | (k, w) :: m, x, v =>
    if x < k then (if v = dflt then (k, w) :: m else (x, v) :: (k, w) :: m)
    else if x = k then (if v = dflt then m else (x, v) :: m)
    else (k, w) :: sparseSet dflt m x v

/-- Canonical form: every key at least `lo` and below `hi`, keys strictly rising, no entry equal to `dflt`. -/
def sparseWf {α : Type} [DecidableEq α] (dflt : α) (hi : Nat) : Nat → List (Nat × α) → Bool
  | _, [] => true
  | lo, (k, v) :: m => decide (lo ≤ k) && decide (k < hi) && decide (v ≠ dflt) && sparseWf dflt hi (k + 1) m

/-! ## Memory cells and frames -/

/-- The byte in cell `x` (10_state R63), an unlisted cell holding 0x00 (R86). -/
def Memory.read (m : Memory) (x : Nat) : Byte := sparseGet 0 m x

/-- Store `v` in cell `x`. -/
def Memory.write (m : Memory) (x : Nat) (v : Byte) : Memory := sparseSet 0 m x v

/-- The canonical form of memory: addresses below 65536 (20_memory R100), rising, no listed cell 0x00. -/
def Memory.wf (m : Memory) : Bool := sparseWf (0 : Byte) 65536 0 m

/-- A line of shade 0. -/
def blankLine : List Shade := List.replicate visibleWidth 0

/-- The shades of one line of a frame. -/
def Frame.row (fr : Frame) (y : Nat) : List Shade := sparseGet blankLine fr y

/-- Draw a line. -/
def Frame.setRow (fr : Frame) (y : Nat) (row : List Shade) : Frame := sparseSet blankLine fr y row

/-- One pixel of a frame. -/
def Frame.pixel (fr : Frame) (y x : Nat) : Shade := (fr.row y).getD x 0

/-- The canonical form of a frame: lines below 144, rising, none blank, each of 160 shades (10_state R67). -/
def Frame.wf (fr : Frame) : Bool :=
  sparseWf blankLine visibleLines 0 fr && fr.all (fun p => p.2.length == visibleWidth)

/-- `mem[x]`: the backing cell itself, without side effects (00_scope R14). -/
def State.cell (s : State) (x : Nat) : Byte := s.mem.read x

/-- `mem[x] <- v`: write the backing cell itself (00_scope R14). -/
def State.setCell (s : State) (x : Nat) (v : Byte) : State := { s with mem := s.mem.write x v }

/-! ## Addresses of the control registers (10_state R68) -/

@[simp] abbrev addrJOYP : Nat := 0xFF00
@[simp] abbrev addrSB : Nat := 0xFF01
@[simp] abbrev addrDIV : Nat := 0xFF04
@[simp] abbrev addrTIMA : Nat := 0xFF05
@[simp] abbrev addrTMA : Nat := 0xFF06
@[simp] abbrev addrTAC : Nat := 0xFF07
@[simp] abbrev addrIF : Nat := 0xFF0F
@[simp] abbrev addrLCDC : Nat := 0xFF40
@[simp] abbrev addrSTAT : Nat := 0xFF41
@[simp] abbrev addrSCY : Nat := 0xFF42
@[simp] abbrev addrSCX : Nat := 0xFF43
@[simp] abbrev addrLY : Nat := 0xFF44
@[simp] abbrev addrLYC : Nat := 0xFF45
@[simp] abbrev addrDMA : Nat := 0xFF46
@[simp] abbrev addrBGP : Nat := 0xFF47
@[simp] abbrev addrOBP0 : Nat := 0xFF48
@[simp] abbrev addrOBP1 : Nat := 0xFF49
@[simp] abbrev addrWY : Nat := 0xFF4A
@[simp] abbrev addrWX : Nat := 0xFF4B
@[simp] abbrev addrBOOT : Nat := 0xFF50
@[simp] abbrev addrIE : Nat := 0xFFFF

/-! ## Registers (10_state R51 to R53) -/

/-- `x[r]` for an 8-bit register (10_state R51). -/
def State.reg8 (s : State) : Reg8 → Byte
  | .a => s.a
  | .f => s.f
  | .b => s.b
  | .c => s.c
  | .d => s.d
  | .e => s.e
  | .h => s.h
  | .l => s.l

/-- `x[r] <- v` for an 8-bit register; F keeps bits 3 to 0 at 0 (10_state R52). -/
def State.setReg8 (s : State) (r : Reg8) (v : Byte) : State :=
  match r with
  | .a => { s with a := v }
  | .f => { s with f := v &&& 0xF0 }
  | .b => { s with b := v }
  | .c => { s with c := v }
  | .d => { s with d := v }
  | .e => { s with e := v }
  | .h => { s with h := v }
  | .l => { s with l := v }

/-- `x[rr]`: a pair is its two slots, the first-named one high (10_state R51). -/
def State.reg16 (s : State) : Reg16 → Word
  | .af => s.a ++ s.f
  | .bc => s.b ++ s.c
  | .de => s.d ++ s.e
  | .hl => s.h ++ s.l
  | .sp => s.sp
  | .pc => s.pc

/-- Bits 15 to 8 of a word. -/
def hiByte (v : Word) : Byte := v.extractLsb' 8 8

/-- Bits 7 to 0 of a word. -/
def loByte (v : Word) : Byte := v.extractLsb' 0 8

/-- `x[rr] <- v`: a pair as two 8-bit writes, high byte first (10_state R53). -/
def State.setReg16 (s : State) (r : Reg16) (v : Word) : State :=
  match r with
  | .af => (s.setReg8 .a (hiByte v)).setReg8 .f (loByte v)
  | .bc => (s.setReg8 .b (hiByte v)).setReg8 .c (loByte v)
  | .de => (s.setReg8 .d (hiByte v)).setReg8 .e (loByte v)
  | .hl => (s.setReg8 .h (hiByte v)).setReg8 .l (loByte v)
  | .sp => { s with sp := v }
  | .pc => { s with pc := v }

/-- `trunc16(v + signed8(imm))` (00_scope R11, R12). -/
def addSigned8 (v : Word) (imm : Byte) : Word := BitVec.ofInt 16 (v.toNat + imm.toInt)

/-! ## Reading the bus (20_memory R110) -/

/-- The low nibble of JOYP with one group's four lines, 0 = pressed (60_exceptions R550). -/
def joypadLines (selected b0 b1 b2 b3 : Bool) : Byte :=
  if selected then
    (if b0 then 0 else 1) ||| (if b1 then 0 else 2) ||| (if b2 then 0 else 4) ||| (if b3 then 0 else 8)
  else 0x0F

/-- `joypad_read()` (60_exceptions R550): bits 7 and 6 read 1, bits 5 and 4 the cell's, bits 3 to 0 the selected lines. -/
def joypadRead (s : State) : Byte :=
  let sel := s.cell addrJOYP
  let k := s.buttons
  0xC0 ||| (sel &&& 0x30) |||
    (joypadLines (!sel.getLsbD 4) k.right k.left k.up k.down &&& joypadLines (!sel.getLsbD 5) k.a k.b k.select k.start)

/-- Where a read of the banked window 0x4000 to 0x7FFF falls in the image (20_memory R131). -/
def bankedIndex (s : State) (x : Word) : Nat := s.romBank.toNat * 0x4000 + (x.toNat - 0x4000)

/-- A read of the banked window; 0xFF past the end of the image (20_memory R131). -/
def bankedRead (s : State) (x : Word) : Byte := s.rom.getD (bankedIndex s x) 0xFF

/-- The boot overlay is in force: an image is loaded and 0xFF50 reads 0 (20_memory R111). -/
def overlayOn (s : State) : Bool := s.bootRom.isSome && s.cell addrBOOT == 0

/-- A byte of the boot image; 0x00 past its end (20_memory R111). -/
def bootByte (s : State) (x : Word) : Byte := (s.bootRom.getD []).getD x.toNat 0

/-- `readByte(a)`, the only read primitive (20_memory R110). It changes no state (R113). -/
def readByte (s : State) (x : Word) : Byte :=
  if x.toNat < 0x100 ∧ overlayOn s = true then bootByte s x
  else if 0x4000 ≤ x.toNat ∧ x.toNat ≤ 0x7FFF ∧ s.mbc1 = true then bankedRead s x
  else if x.toNat = addrJOYP then joypadRead s
  else if x.toNat = addrDIV then hiByte s.div
  else s.cell x.toNat

/-- `MemRead(a, 2)`: low byte at `a`, high byte at `trunc16(a + 1)` (20_memory R102). -/
def readWord (s : State) (x : Word) : Word := readByte s (x + 1) ++ readByte s x

/-! ## Writing the bus (20_memory R120) -/

/-- One byte of the OAM copy: `memory[0xFE00 + i] <- readByte(v << 8 | i)` (20_memory R125). -/
def oamDmaByte (v : Byte) (s : State) (i : Nat) : State :=
  s.setCell (0xFE00 + i) (readByte s (v ++ BitVec.ofNat 8 i))

/-- `oam_dma(v)`: 0xA0 bytes, at once, in rising order (20_memory R125). -/
def oamDma (v : Byte) (s : State) : State := (List.range 0xA0).foldl (oamDmaByte v) s

/-- The MBC1 bank register's new value: five bits, 0 replaced by 1 (20_memory R122). -/
def bankSelect (v : Byte) : BitVec 5 :=
  let b := v.extractLsb' 0 5
  if b = 0 then 1 else b

/-- `writeByte(a, v)`, the only write primitive (20_memory R120 to R125; 10_state R71, R76; 60 R553). -/
def writeByte (x : Word) (v : Byte) (s : State) : State :=
  if x.toNat ≤ 0x7FFF then
    if s.mbc1 = true ∧ 0x2000 ≤ x.toNat ∧ x.toNat ≤ 0x3FFF then { s with romBank := bankSelect v } else s
  else if x.toNat = addrDIV then { s with div := 0 }
  else if x.toNat = addrSTAT then s.setCell addrSTAT ((v &&& 0x78) ||| (s.cell addrSTAT &&& 0x87))
  else if x.toNat = addrDMA then oamDma v (s.setCell addrDMA v)
  else if x.toNat = addrSB ∧ v ≠ 0 then { s.setCell addrSB v with serialOut := s.serialOut ++ [v] }
  else s.setCell x.toNat v

/-- `MemWrite(a, 2, v)`: low byte at `a`, then high byte at `trunc16(a + 1)` (20_memory R102). -/
def writeWord (x v : Word) (s : State) : State := writeByte (x + 1) (hiByte v) (writeByte x (loByte v) s)

/-! ## The stack (47_stack R390) -/

/-- `push16(v)`: SP down by 2, the high byte written first, at old SP - 1, then the low byte at old SP - 2. -/
def push16 (v : Word) (s : State) : State :=
  let sp' := s.sp - 2
  writeByte sp' (loByte v) (writeByte (sp' + 1) (hiByte v) { s with sp := sp' })

/-- The word on top of the stack: low byte at SP, high byte at SP + 1. -/
def stackTop (s : State) : Word := readWord s s.sp

/-- SP after a pop. -/
def dropTop (s : State) : State := { s with sp := s.sp + 2 }

/-! ## Interrupts and the fault (60_exceptions R510 to R518, R540) -/

/-- `pending() = IF & IE & 0x1F` (60 R510). -/
def pending (s : State) : Byte := s.cell addrIF &&& s.cell addrIE &&& 0x1F

/-- Request the interrupt of bit `k`: `IF <- IF | (1 << k)` (60 R511). -/
def requestInterrupt (k : Nat) (s : State) : State := s.setCell addrIF (s.cell addrIF ||| BitVec.ofNat 8 (2 ^ k))

/-- The lowest set bit of the pending set, 0 to 4 (60 R514); 4 when none of bits 0 to 3 is set. -/
def lowestPending (p : Byte) : Nat :=
  if p.getLsbD 0 then 0 else if p.getLsbD 1 then 1 else if p.getLsbD 2 then 2 else if p.getLsbD 3 then 3 else 4

/-- The vector of the interrupt of bit `k` (60 R515). -/
def interruptVector (k : Nat) : Word := BitVec.ofNat 16 (0x40 + 8 * k)

/-- TAKING AN INTERRUPT, `dispatch()` (60 R516): the IF bit and IME are cleared, the return address (the HALT's own when
`halt_bug` is set, R531) is pushed, and PC goes to the vector. Nothing else is saved. -/
def dispatchInterrupt (s : State) : State :=
  let k := lowestPending (pending s)
  let s1 := s.setCell addrIF (s.cell addrIF &&& ~~~(BitVec.ofNat 8 (2 ^ k)))
  let ret := if s.haltBug then s.pc - 1 else s.pc
  { push16 ret { s1 with ime := false, eiPending := false, haltBug := false } with pc := interruptVector k }

/-- THE RETURN FROM AN INTERRUPT (45 R330, 60 R518): pop PC, set IME at once, cancel a pending EI. -/
def returnFromInterrupt (s : State) : State :=
  { dropTop s with pc := stackTop s, ime := true, eiPending := false }

/-- THE DECODE FAULT (60 R540): record the byte and its address in `fault`; write nothing else, charge nothing. -/
def raiseUnknownOpcode (op : Byte) (s : State) : State := { s with fault := some (.unknownOpcode op s.pc) }

/-- The cause code of a fault (60 R540, 92 D10). -/
def causeCode : Fault → Nat
  | .unknownOpcode _ _ => 1

/-! ## Retiring an instruction (30_encoding R160) -/

/-- Charge `n` cycles to the running total (60 R500, R596). -/
def State.charge (s : State) (n : Nat) : State := { s with cycles := s.cycles + n }

/-- Advance PC past the instruction, before its effect (10_state R59); one byte less when `halt_bug` is set, which this
clears (60 R531; log 5). -/
def State.advancePc (s : State) (len : Nat) : State :=
  { s with pc := s.pc + BitVec.ofNat 16 (if s.haltBug then len - 1 else len), haltBug := false }

/-- Advance PC, run the effect, charge the cost (30_encoding R160). -/
def retire (len cost : Nat) (effect : State → State) (s : State) : Result :=
  .next ((effect (s.advancePc len)).charge cost)

/-- As `retire`, for a conditional instruction: the effect and the second cost only when the condition holds
(45_control_transfer, 70_reset R631). -/
def retireIf (cond : State → Bool) (len notTaken taken : Nat) (effect : State → State) (s : State) : Result :=
  if cond s then retire len taken effect s else retire len notTaken id s

/-- An illegal byte: no PC advance, no cost, only the fault (30_encoding R160, R162). -/
def raiseIllegal (op : Byte) (s : State) : Result := .next (raiseUnknownOpcode op s)

/-! ## Placing code (Step.withFetchWord) -/

/-- Replace element `i` of a list, padding with `fill`. -/
def padSet (l : List Byte) (i : Nat) (v fill : Byte) : List Byte :=
  if i < l.length then l.set i v else l ++ List.replicate (i - l.length) fill ++ [v]

/-- Put a byte where a fetch at `x` reads it: the boot image under the overlay, the current bank of an MBC1 image, the
divider's high byte at 0xFF04, else the cell (20_memory R110 read backwards). At 0xFF00 a read composes the joypad lines,
so there the cell alone is set (log 2). -/
def pokeCode (x : Word) (v : Byte) (s : State) : State :=
  if x.toNat < 0x100 ∧ overlayOn s = true then { s with bootRom := some (padSet (s.bootRom.getD []) x.toNat v 0) }
  else if 0x4000 ≤ x.toNat ∧ x.toNat ≤ 0x7FFF ∧ s.mbc1 = true then
    { s with rom := padSet s.rom (bankedIndex s x) v 0xFF }
  else if x.toNat = addrDIV then { s with div := v ++ loByte s.div }
  else s.setCell x.toNat v

end Sys2Proof.Machine
end

