-- ==== Sys2Proof/Machine/Operands.lean ====
section
/-! DEFINITION. Operand forms (30_encoding R152 to R155; 46_loads): the r8 codes with their register and (HL) variants, the
branch conditions, the effective addresses, and the effects the instruction families share. -/

namespace Sys2Proof.Machine

/-- The operand code r8 (30_encoding R152). -/
inductive R8 where
  | b | c | d | e | h | l | atHL | a
  deriving DecidableEq, Repr

/-- `src(z)`: a register, or the byte at HL through the bus (41_alu8 R199). -/
def src (r : R8) (s : State) : Byte :=
  match r with
  | .b => s.b
  | .c => s.c
  | .d => s.d
  | .e => s.e
  | .h => s.h
  | .l => s.l
  | .atHL => readByte s (s.reg16 .hl)
  | .a => s.a

/-- `dst(y) <- v`: a register, or the byte at HL through the bus (41_alu8 R199). -/
def dst (r : R8) (v : Byte) (s : State) : State :=
  match r with
  | .b => s.setReg8 .b v
  | .c => s.setReg8 .c v
  | .d => s.setReg8 .d v
  | .e => s.setReg8 .e v
  | .h => s.setReg8 .h v
  | .l => s.setReg8 .l v
  | .atHL => writeByte (s.reg16 .hl) v s
  | .a => s.setReg8 .a v

/-- The immediate byte as an operand (30_encoding R155). -/
def immediate (n : Byte) (_ : State) : Byte := n

/-- The condition codes (30_encoding R154). -/
inductive Cond where
  | nz | z | nc | c
  deriving DecidableEq, Repr

/-- `cond(cc)` (45_control_transfer R320). -/
def condHolds (cc : Cond) (s : State) : Bool :=
  match cc with
  | .nz => !s.flagZ
  | .z => s.flagZ
  | .nc => !s.flagC
  | .c => s.flagC

/-- The effective addresses of 46_loads. -/
inductive Ea where
  | reg (r : Reg16)
  | abs (x : Word)
  | page (n : Byte)
  | pageC
  deriving DecidableEq, Repr

/-- The address a mode names (46_loads, table of addressing modes). -/
def ea (m : Ea) (s : State) : Word :=
  match m with
  | .reg r => s.reg16 r
  | .abs x => x
  | .page n => (0xFF : Byte) ++ n
  | .pageC => (0xFF : Byte) ++ s.c

/-! ## Shared effects: 8-bit arithmetic and logic (41_alu8) -/

/-- The ALU operations on A, in the order of 30_encoding R156. -/
inductive AluOp where
  | add | adc | sub | sbc | and | xor | or | cp
  deriving DecidableEq, Repr

/-- A logic operation's result in A, with its H (41_alu8 R213 to R221). -/
def putLogic (v : Byte) (half : Bool) (s : State) : State := { s with a := v }.putFlags (v == 0) false half false

/-- `op A,operand` (41_alu8 R201 to R224). -/
def aluA (op : AluOp) (operand : State → Byte) (s : State) : State :=
  let y := operand s
  match op with
  | .add => let r := add8 s.a y false; { s with a := r.value }.putFlags r.zero false r.half r.carry
  | .adc => let r := add8 s.a y s.flagC; { s with a := r.value }.putFlags r.zero false r.half r.carry
  | .sub => let r := sub8 s.a y false; { s with a := r.value }.putFlags r.zero true r.half r.carry
  | .sbc => let r := sub8 s.a y s.flagC; { s with a := r.value }.putFlags r.zero true r.half r.carry
  | .and => putLogic (s.a &&& y) true s
  | .xor => putLogic (s.a ^^^ y) false s
  | .or => putLogic (s.a ||| y) false s
  | .cp => let r := sub8 s.a y false; s.putFlags r.zero true r.half r.carry

/-- INC of a register or (HL) (41_alu8 R225, R226). -/
def incR8 (r : R8) (s : State) : State :=
  let old := src r s
  let v := old + 1
  (dst r v s).putFlags (v == 0) false (nibble old == 0xF) s.flagC

/-- DEC of a register or (HL) (41_alu8 R227, R228). -/
def decR8 (r : R8) (s : State) : State :=
  let old := src r s
  let v := old - 1
  (dst r v s).putFlags (v == 0) true (nibble old == 0x0) s.flagC

/-! ## Shared effects: 16-bit arithmetic (42_alu16) -/

/-- ADD HL,rr (42_alu16 R250). -/
def addHL (r : Reg16) (s : State) : State :=
  let x := s.reg16 .hl
  let y := s.reg16 r
  (s.setReg16 .hl (x + y)).putFlags s.flagZ false (half16 x y) (carry16 x y)

/-- INC rr (42_alu16 R251): no flag. -/
def incR16 (r : Reg16) (s : State) : State := s.setReg16 r (s.reg16 r + 1)

/-- DEC rr (42_alu16 R252): no flag. -/
def decR16 (r : Reg16) (s : State) : State := s.setReg16 r (s.reg16 r - 1)

/-- ADD SP,e8 and LD HL,SP+e8: SP plus e8 into `r`, flags from the low byte (42_alu16 R253, R254). -/
def spPlus (r : Reg16) (imm : Byte) (s : State) : State :=
  (s.setReg16 r (addSigned8 s.sp imm)).putFlags false false (halfSp s.sp imm) (carrySp s.sp imm)

/-! ## Shared effects: rotates, shifts and bits (43, 44) -/

/-- RLCA, RRCA, RLA, RRA: Z is always 0 (43_rotate_shift R270 to R273). -/
def rotA (op : RotOp) (s : State) : State :=
  let r := rot op s.a s.flagC
  { s with a := r.1 }.putFlags false false false r.2

/-- A prefixed rotate or shift: Z from the result (43_rotate_shift R274 to R289). -/
def rotR8 (op : RotOp) (x : R8) (s : State) : State :=
  let r := rot op (src x s) s.flagC
  (dst x r.1 s).putFlags (r.1 == 0) false false r.2

/-- BIT b,x (44_bit_ops R300, R301): writes only flags. -/
def bitR8 (b : Nat) (x : R8) (s : State) : State := s.putFlags (!(src x s).getLsbD b) false true s.flagC

/-- RES b,x (44_bit_ops R302, R303). -/
def resR8 (b : Nat) (x : R8) (s : State) : State := dst x (src x s &&& ~~~(bitMask b)) s

/-- SET b,x (44_bit_ops R304, R305). -/
def setR8 (b : Nat) (x : R8) (s : State) : State := dst x (src x s ||| bitMask b) s

/-! ## Shared effects: loads, stack and control transfer (46, 47, 45) -/

/-- LD dst,src over r8 codes (46_loads R350, R352, R353). -/
def loadR8 (y z : R8) (s : State) : State := dst y (src z s) s

/-- LD r8,d8 (46_loads R351, R354). -/
def loadImm (y : R8) (n : Byte) (s : State) : State := dst y n s

/-- A from memory (46_loads R355, R356, R359, R361, R363). -/
def loadA (m : Ea) (s : State) : State := { s with a := readByte s (ea m s) }

/-- A to memory (46_loads R357, R358, R360, R362, R364). -/
def storeA (m : Ea) (s : State) : State := writeByte (ea m s) s.a s

/-- A from (HL), then HL moved by `delta` (46_loads R365, R366). -/
def loadAStep (delta : Word) (s : State) : State :=
  let x := s.reg16 .hl
  { s with a := readByte s x }.setReg16 .hl (x + delta)

/-- A to (HL), then HL moved by `delta` (46_loads R367, R368). -/
def storeAStep (delta : Word) (s : State) : State :=
  let x := s.reg16 .hl
  (writeByte x s.a s).setReg16 .hl (x + delta)

/-- PUSH rr (47_stack R391). -/
def pushR16 (r : Reg16) (s : State) : State := push16 (s.reg16 r) s

/-- POP rr (47_stack R392). -/
def popR16 (r : Reg16) (s : State) : State := (dropTop s).setReg16 r (stackTop s)

/-- Jump: PC replaced (45 R321 to R323). -/
def jumpTo (x : Word) (s : State) : State := { s with pc := x }

/-- Relative jump from the already advanced PC (45 R324, R325). -/
def jumpRel (n : Byte) (s : State) : State := { s with pc := addSigned8 s.pc n }

/-- Push the advanced PC and jump (45 R326, R327, R340). -/
def callTo (x : Word) (s : State) : State := { push16 s.pc s with pc := x }

/-- Pop PC (45 R328, R329). -/
def returnTo (s : State) : State := { dropTop s with pc := stackTop s }

end Sys2Proof.Machine
end

