-- ==== Sys2Proof/Machine/Alu16.lean ====
section
/-! DEFINITION. 16-bit arithmetic (42_alu16 R250 to R254). One meaning per row of the opcode table, each over the shared
effects of Operands.lean; the two numbers are the length in bytes and the cost in cycles (30_encoding R159, R161). -/

namespace Sys2Proof.Machine

/-- R251 `INC BC`: 0x03. -/
def execInc_BC (s : State) : Result := retire 1 8 (incR16 .bc) s

/-- R250 `ADD HL,BC`: 0x09. -/
def execAdd_HL_BC (s : State) : Result := retire 1 8 (addHL .bc) s

/-- R252 `DEC BC`: 0x0B. -/
def execDec_BC (s : State) : Result := retire 1 8 (decR16 .bc) s

/-- R251 `INC DE`: 0x13. -/
def execInc_DE (s : State) : Result := retire 1 8 (incR16 .de) s

/-- R250 `ADD HL,DE`: 0x19. -/
def execAdd_HL_DE (s : State) : Result := retire 1 8 (addHL .de) s

/-- R252 `DEC DE`: 0x1B. -/
def execDec_DE (s : State) : Result := retire 1 8 (decR16 .de) s

/-- R251 `INC HL`: 0x23. -/
def execInc_HL (s : State) : Result := retire 1 8 (incR16 .hl) s

/-- R250 `ADD HL,HL`: 0x29. -/
def execAdd_HL_HL (s : State) : Result := retire 1 8 (addHL .hl) s

/-- R252 `DEC HL`: 0x2B. -/
def execDec_HL (s : State) : Result := retire 1 8 (decR16 .hl) s

/-- R251 `INC SP`: 0x33. -/
def execInc_SP (s : State) : Result := retire 1 8 (incR16 .sp) s

/-- R250 `ADD HL,SP`: 0x39. -/
def execAdd_HL_SP (s : State) : Result := retire 1 8 (addHL .sp) s

/-- R252 `DEC SP`: 0x3B. -/
def execDec_SP (s : State) : Result := retire 1 8 (decR16 .sp) s

/-- R253 `ADD SP,e8`: 0xE8. -/
def execAdd_SP_e8 (e8 : Byte) (s : State) : Result := retire 2 16 (spPlus .sp e8) s

/-- R254 `LD HL,SP+e8`: 0xF8. -/
def execLd_HL_SPe8 (e8 : Byte) (s : State) : Result := retire 2 12 (spPlus .hl e8) s

end Sys2Proof.Machine
end

