-- ==== Sys2Proof/Machine/Alu8.lean ====
section
/-! DEFINITION. 8-bit arithmetic and logic (41_alu8 R201 to R230). One meaning per row of the opcode table, each over the shared
effects of Operands.lean; the two numbers are the length in bytes and the cost in cycles (30_encoding R159, R161). -/

namespace Sys2Proof.Machine

/-- CPL (41_alu8 R229): A complemented, N and H set, Z and C unchanged. -/
def cplA (s : State) : State := { s with a := s.a ^^^ 0xFF }.putFlags s.flagZ true true s.flagC

/-- DAA (41_alu8 R230): N unchanged, H cleared. -/
def daaA (s : State) : State :=
  let r := daaAdjust s.a s.flagN s.flagH s.flagC
  { s with a := r.1 }.putFlags (r.1 == 0) s.flagN false r.2

/-- R225 `INC B`: 0x04. -/
def execInc_B (s : State) : Result := retire 1 4 (incR8 .b) s

/-- R227 `DEC B`: 0x05. -/
def execDec_B (s : State) : Result := retire 1 4 (decR8 .b) s

/-- R225 `INC C`: 0x0C. -/
def execInc_C (s : State) : Result := retire 1 4 (incR8 .c) s

/-- R227 `DEC C`: 0x0D. -/
def execDec_C (s : State) : Result := retire 1 4 (decR8 .c) s

/-- R225 `INC D`: 0x14. -/
def execInc_D (s : State) : Result := retire 1 4 (incR8 .d) s

/-- R227 `DEC D`: 0x15. -/
def execDec_D (s : State) : Result := retire 1 4 (decR8 .d) s

/-- R225 `INC E`: 0x1C. -/
def execInc_E (s : State) : Result := retire 1 4 (incR8 .e) s

/-- R227 `DEC E`: 0x1D. -/
def execDec_E (s : State) : Result := retire 1 4 (decR8 .e) s

/-- R225 `INC H`: 0x24. -/
def execInc_H (s : State) : Result := retire 1 4 (incR8 .h) s

/-- R227 `DEC H`: 0x25. -/
def execDec_H (s : State) : Result := retire 1 4 (decR8 .h) s

/-- R230 `DAA`: 0x27. -/
def execDaa (s : State) : Result := retire 1 4 daaA s

/-- R225 `INC L`: 0x2C. -/
def execInc_L (s : State) : Result := retire 1 4 (incR8 .l) s

/-- R227 `DEC L`: 0x2D. -/
def execDec_L (s : State) : Result := retire 1 4 (decR8 .l) s

/-- R229 `CPL`: 0x2F. -/
def execCpl (s : State) : Result := retire 1 4 cplA s

/-- R226 `INC (HL)`: 0x34. -/
def execInc_atHL (s : State) : Result := retire 1 12 (incR8 .atHL) s

/-- R228 `DEC (HL)`: 0x35. -/
def execDec_atHL (s : State) : Result := retire 1 12 (decR8 .atHL) s

/-- R225 `INC A`: 0x3C. -/
def execInc_A (s : State) : Result := retire 1 4 (incR8 .a) s

/-- R227 `DEC A`: 0x3D. -/
def execDec_A (s : State) : Result := retire 1 4 (decR8 .a) s

/-- R201 `ADD A,B`: 0x80. -/
def execAdd_A_B (s : State) : Result := retire 1 4 (aluA .add (src .b)) s

/-- R201 `ADD A,C`: 0x81. -/
def execAdd_A_C (s : State) : Result := retire 1 4 (aluA .add (src .c)) s

/-- R201 `ADD A,D`: 0x82. -/
def execAdd_A_D (s : State) : Result := retire 1 4 (aluA .add (src .d)) s

/-- R201 `ADD A,E`: 0x83. -/
def execAdd_A_E (s : State) : Result := retire 1 4 (aluA .add (src .e)) s

/-- R201 `ADD A,H`: 0x84. -/
def execAdd_A_H (s : State) : Result := retire 1 4 (aluA .add (src .h)) s

/-- R201 `ADD A,L`: 0x85. -/
def execAdd_A_L (s : State) : Result := retire 1 4 (aluA .add (src .l)) s

/-- R202 `ADD A,(HL)`: 0x86. -/
def execAdd_A_atHL (s : State) : Result := retire 1 8 (aluA .add (src .atHL)) s

/-- R201 `ADD A,A`: 0x87. -/
def execAdd_A_A (s : State) : Result := retire 1 4 (aluA .add (src .a)) s

/-- R204 `ADC A,B`: 0x88. -/
def execAdc_A_B (s : State) : Result := retire 1 4 (aluA .adc (src .b)) s

/-- R204 `ADC A,C`: 0x89. -/
def execAdc_A_C (s : State) : Result := retire 1 4 (aluA .adc (src .c)) s

/-- R204 `ADC A,D`: 0x8A. -/
def execAdc_A_D (s : State) : Result := retire 1 4 (aluA .adc (src .d)) s

/-- R204 `ADC A,E`: 0x8B. -/
def execAdc_A_E (s : State) : Result := retire 1 4 (aluA .adc (src .e)) s

/-- R204 `ADC A,H`: 0x8C. -/
def execAdc_A_H (s : State) : Result := retire 1 4 (aluA .adc (src .h)) s

/-- R204 `ADC A,L`: 0x8D. -/
def execAdc_A_L (s : State) : Result := retire 1 4 (aluA .adc (src .l)) s

/-- R205 `ADC A,(HL)`: 0x8E. -/
def execAdc_A_atHL (s : State) : Result := retire 1 8 (aluA .adc (src .atHL)) s

/-- R204 `ADC A,A`: 0x8F. -/
def execAdc_A_A (s : State) : Result := retire 1 4 (aluA .adc (src .a)) s

/-- R207 `SUB B`: 0x90. -/
def execSub_B (s : State) : Result := retire 1 4 (aluA .sub (src .b)) s

/-- R207 `SUB C`: 0x91. -/
def execSub_C (s : State) : Result := retire 1 4 (aluA .sub (src .c)) s

/-- R207 `SUB D`: 0x92. -/
def execSub_D (s : State) : Result := retire 1 4 (aluA .sub (src .d)) s

/-- R207 `SUB E`: 0x93. -/
def execSub_E (s : State) : Result := retire 1 4 (aluA .sub (src .e)) s

/-- R207 `SUB H`: 0x94. -/
def execSub_H (s : State) : Result := retire 1 4 (aluA .sub (src .h)) s

/-- R207 `SUB L`: 0x95. -/
def execSub_L (s : State) : Result := retire 1 4 (aluA .sub (src .l)) s

/-- R208 `SUB (HL)`: 0x96. -/
def execSub_atHL (s : State) : Result := retire 1 8 (aluA .sub (src .atHL)) s

/-- R207 `SUB A`: 0x97. -/
def execSub_A (s : State) : Result := retire 1 4 (aluA .sub (src .a)) s

/-- R210 `SBC A,B`: 0x98. -/
def execSbc_A_B (s : State) : Result := retire 1 4 (aluA .sbc (src .b)) s

/-- R210 `SBC A,C`: 0x99. -/
def execSbc_A_C (s : State) : Result := retire 1 4 (aluA .sbc (src .c)) s

/-- R210 `SBC A,D`: 0x9A. -/
def execSbc_A_D (s : State) : Result := retire 1 4 (aluA .sbc (src .d)) s

/-- R210 `SBC A,E`: 0x9B. -/
def execSbc_A_E (s : State) : Result := retire 1 4 (aluA .sbc (src .e)) s

/-- R210 `SBC A,H`: 0x9C. -/
def execSbc_A_H (s : State) : Result := retire 1 4 (aluA .sbc (src .h)) s

/-- R210 `SBC A,L`: 0x9D. -/
def execSbc_A_L (s : State) : Result := retire 1 4 (aluA .sbc (src .l)) s

/-- R211 `SBC A,(HL)`: 0x9E. -/
def execSbc_A_atHL (s : State) : Result := retire 1 8 (aluA .sbc (src .atHL)) s

/-- R210 `SBC A,A`: 0x9F. -/
def execSbc_A_A (s : State) : Result := retire 1 4 (aluA .sbc (src .a)) s

/-- R213 `AND B`: 0xA0. -/
def execAnd_B (s : State) : Result := retire 1 4 (aluA .and (src .b)) s

/-- R213 `AND C`: 0xA1. -/
def execAnd_C (s : State) : Result := retire 1 4 (aluA .and (src .c)) s

/-- R213 `AND D`: 0xA2. -/
def execAnd_D (s : State) : Result := retire 1 4 (aluA .and (src .d)) s

/-- R213 `AND E`: 0xA3. -/
def execAnd_E (s : State) : Result := retire 1 4 (aluA .and (src .e)) s

/-- R213 `AND H`: 0xA4. -/
def execAnd_H (s : State) : Result := retire 1 4 (aluA .and (src .h)) s

/-- R213 `AND L`: 0xA5. -/
def execAnd_L (s : State) : Result := retire 1 4 (aluA .and (src .l)) s

/-- R214 `AND (HL)`: 0xA6. -/
def execAnd_atHL (s : State) : Result := retire 1 8 (aluA .and (src .atHL)) s

/-- R213 `AND A`: 0xA7. -/
def execAnd_A (s : State) : Result := retire 1 4 (aluA .and (src .a)) s

/-- R216 `XOR B`: 0xA8. -/
def execXor_B (s : State) : Result := retire 1 4 (aluA .xor (src .b)) s

/-- R216 `XOR C`: 0xA9. -/
def execXor_C (s : State) : Result := retire 1 4 (aluA .xor (src .c)) s

/-- R216 `XOR D`: 0xAA. -/
def execXor_D (s : State) : Result := retire 1 4 (aluA .xor (src .d)) s

/-- R216 `XOR E`: 0xAB. -/
def execXor_E (s : State) : Result := retire 1 4 (aluA .xor (src .e)) s

/-- R216 `XOR H`: 0xAC. -/
def execXor_H (s : State) : Result := retire 1 4 (aluA .xor (src .h)) s

/-- R216 `XOR L`: 0xAD. -/
def execXor_L (s : State) : Result := retire 1 4 (aluA .xor (src .l)) s

/-- R217 `XOR (HL)`: 0xAE. -/
def execXor_atHL (s : State) : Result := retire 1 8 (aluA .xor (src .atHL)) s

/-- R216 `XOR A`: 0xAF. -/
def execXor_A (s : State) : Result := retire 1 4 (aluA .xor (src .a)) s

/-- R219 `OR B`: 0xB0. -/
def execOr_B (s : State) : Result := retire 1 4 (aluA .or (src .b)) s

/-- R219 `OR C`: 0xB1. -/
def execOr_C (s : State) : Result := retire 1 4 (aluA .or (src .c)) s

/-- R219 `OR D`: 0xB2. -/
def execOr_D (s : State) : Result := retire 1 4 (aluA .or (src .d)) s

/-- R219 `OR E`: 0xB3. -/
def execOr_E (s : State) : Result := retire 1 4 (aluA .or (src .e)) s

/-- R219 `OR H`: 0xB4. -/
def execOr_H (s : State) : Result := retire 1 4 (aluA .or (src .h)) s

/-- R219 `OR L`: 0xB5. -/
def execOr_L (s : State) : Result := retire 1 4 (aluA .or (src .l)) s

/-- R220 `OR (HL)`: 0xB6. -/
def execOr_atHL (s : State) : Result := retire 1 8 (aluA .or (src .atHL)) s

/-- R219 `OR A`: 0xB7. -/
def execOr_A (s : State) : Result := retire 1 4 (aluA .or (src .a)) s

/-- R222 `CP B`: 0xB8. -/
def execCp_B (s : State) : Result := retire 1 4 (aluA .cp (src .b)) s

/-- R222 `CP C`: 0xB9. -/
def execCp_C (s : State) : Result := retire 1 4 (aluA .cp (src .c)) s

/-- R222 `CP D`: 0xBA. -/
def execCp_D (s : State) : Result := retire 1 4 (aluA .cp (src .d)) s

/-- R222 `CP E`: 0xBB. -/
def execCp_E (s : State) : Result := retire 1 4 (aluA .cp (src .e)) s

/-- R222 `CP H`: 0xBC. -/
def execCp_H (s : State) : Result := retire 1 4 (aluA .cp (src .h)) s

/-- R222 `CP L`: 0xBD. -/
def execCp_L (s : State) : Result := retire 1 4 (aluA .cp (src .l)) s

/-- R223 `CP (HL)`: 0xBE. -/
def execCp_atHL (s : State) : Result := retire 1 8 (aluA .cp (src .atHL)) s

/-- R222 `CP A`: 0xBF. -/
def execCp_A (s : State) : Result := retire 1 4 (aluA .cp (src .a)) s

/-- R203 `ADD A,d8`: 0xC6. -/
def execAdd_A_d8 (d8 : Byte) (s : State) : Result := retire 2 8 (aluA .add (immediate d8)) s

/-- R206 `ADC A,d8`: 0xCE. -/
def execAdc_A_d8 (d8 : Byte) (s : State) : Result := retire 2 8 (aluA .adc (immediate d8)) s

/-- R209 `SUB d8`: 0xD6. -/
def execSub_d8 (d8 : Byte) (s : State) : Result := retire 2 8 (aluA .sub (immediate d8)) s

/-- R212 `SBC A,d8`: 0xDE. -/
def execSbc_A_d8 (d8 : Byte) (s : State) : Result := retire 2 8 (aluA .sbc (immediate d8)) s

/-- R215 `AND d8`: 0xE6. -/
def execAnd_d8 (d8 : Byte) (s : State) : Result := retire 2 8 (aluA .and (immediate d8)) s

/-- R218 `XOR d8`: 0xEE. -/
def execXor_d8 (d8 : Byte) (s : State) : Result := retire 2 8 (aluA .xor (immediate d8)) s

/-- R221 `OR d8`: 0xF6. -/
def execOr_d8 (d8 : Byte) (s : State) : Result := retire 2 8 (aluA .or (immediate d8)) s

/-- R224 `CP d8`: 0xFE. -/
def execCp_d8 (d8 : Byte) (s : State) : Result := retire 2 8 (aluA .cp (immediate d8)) s

end Sys2Proof.Machine
end

