-- ==== Sys2Proof/Machine/BitOps.lean ====
section
/-! DEFINITION. Single-bit test, reset and set (44_bit_ops R300 to R305). One meaning per row of the opcode table, each over the shared
effects of Operands.lean; the two numbers are the length in bytes and the cost in cycles (30_encoding R159, R161). -/

namespace Sys2Proof.Machine

/-- R300 `BIT 0,B`: 0xCB 0x40. -/
def execBit_0_B (s : State) : Result := retire 2 8 (bitR8 0 .b) s

/-- R300 `BIT 0,C`: 0xCB 0x41. -/
def execBit_0_C (s : State) : Result := retire 2 8 (bitR8 0 .c) s

/-- R300 `BIT 0,D`: 0xCB 0x42. -/
def execBit_0_D (s : State) : Result := retire 2 8 (bitR8 0 .d) s

/-- R300 `BIT 0,E`: 0xCB 0x43. -/
def execBit_0_E (s : State) : Result := retire 2 8 (bitR8 0 .e) s

/-- R300 `BIT 0,H`: 0xCB 0x44. -/
def execBit_0_H (s : State) : Result := retire 2 8 (bitR8 0 .h) s

/-- R300 `BIT 0,L`: 0xCB 0x45. -/
def execBit_0_L (s : State) : Result := retire 2 8 (bitR8 0 .l) s

/-- R301 `BIT 0,(HL)`: 0xCB 0x46. -/
def execBit_0_atHL (s : State) : Result := retire 2 12 (bitR8 0 .atHL) s

/-- R300 `BIT 0,A`: 0xCB 0x47. -/
def execBit_0_A (s : State) : Result := retire 2 8 (bitR8 0 .a) s

/-- R300 `BIT 1,B`: 0xCB 0x48. -/
def execBit_1_B (s : State) : Result := retire 2 8 (bitR8 1 .b) s

/-- R300 `BIT 1,C`: 0xCB 0x49. -/
def execBit_1_C (s : State) : Result := retire 2 8 (bitR8 1 .c) s

/-- R300 `BIT 1,D`: 0xCB 0x4A. -/
def execBit_1_D (s : State) : Result := retire 2 8 (bitR8 1 .d) s

/-- R300 `BIT 1,E`: 0xCB 0x4B. -/
def execBit_1_E (s : State) : Result := retire 2 8 (bitR8 1 .e) s

/-- R300 `BIT 1,H`: 0xCB 0x4C. -/
def execBit_1_H (s : State) : Result := retire 2 8 (bitR8 1 .h) s

/-- R300 `BIT 1,L`: 0xCB 0x4D. -/
def execBit_1_L (s : State) : Result := retire 2 8 (bitR8 1 .l) s

/-- R301 `BIT 1,(HL)`: 0xCB 0x4E. -/
def execBit_1_atHL (s : State) : Result := retire 2 12 (bitR8 1 .atHL) s

/-- R300 `BIT 1,A`: 0xCB 0x4F. -/
def execBit_1_A (s : State) : Result := retire 2 8 (bitR8 1 .a) s

/-- R300 `BIT 2,B`: 0xCB 0x50. -/
def execBit_2_B (s : State) : Result := retire 2 8 (bitR8 2 .b) s

/-- R300 `BIT 2,C`: 0xCB 0x51. -/
def execBit_2_C (s : State) : Result := retire 2 8 (bitR8 2 .c) s

/-- R300 `BIT 2,D`: 0xCB 0x52. -/
def execBit_2_D (s : State) : Result := retire 2 8 (bitR8 2 .d) s

/-- R300 `BIT 2,E`: 0xCB 0x53. -/
def execBit_2_E (s : State) : Result := retire 2 8 (bitR8 2 .e) s

/-- R300 `BIT 2,H`: 0xCB 0x54. -/
def execBit_2_H (s : State) : Result := retire 2 8 (bitR8 2 .h) s

/-- R300 `BIT 2,L`: 0xCB 0x55. -/
def execBit_2_L (s : State) : Result := retire 2 8 (bitR8 2 .l) s

/-- R301 `BIT 2,(HL)`: 0xCB 0x56. -/
def execBit_2_atHL (s : State) : Result := retire 2 12 (bitR8 2 .atHL) s

/-- R300 `BIT 2,A`: 0xCB 0x57. -/
def execBit_2_A (s : State) : Result := retire 2 8 (bitR8 2 .a) s

/-- R300 `BIT 3,B`: 0xCB 0x58. -/
def execBit_3_B (s : State) : Result := retire 2 8 (bitR8 3 .b) s

/-- R300 `BIT 3,C`: 0xCB 0x59. -/
def execBit_3_C (s : State) : Result := retire 2 8 (bitR8 3 .c) s

/-- R300 `BIT 3,D`: 0xCB 0x5A. -/
def execBit_3_D (s : State) : Result := retire 2 8 (bitR8 3 .d) s

/-- R300 `BIT 3,E`: 0xCB 0x5B. -/
def execBit_3_E (s : State) : Result := retire 2 8 (bitR8 3 .e) s

/-- R300 `BIT 3,H`: 0xCB 0x5C. -/
def execBit_3_H (s : State) : Result := retire 2 8 (bitR8 3 .h) s

/-- R300 `BIT 3,L`: 0xCB 0x5D. -/
def execBit_3_L (s : State) : Result := retire 2 8 (bitR8 3 .l) s

/-- R301 `BIT 3,(HL)`: 0xCB 0x5E. -/
def execBit_3_atHL (s : State) : Result := retire 2 12 (bitR8 3 .atHL) s

/-- R300 `BIT 3,A`: 0xCB 0x5F. -/
def execBit_3_A (s : State) : Result := retire 2 8 (bitR8 3 .a) s

/-- R300 `BIT 4,B`: 0xCB 0x60. -/
def execBit_4_B (s : State) : Result := retire 2 8 (bitR8 4 .b) s

/-- R300 `BIT 4,C`: 0xCB 0x61. -/
def execBit_4_C (s : State) : Result := retire 2 8 (bitR8 4 .c) s

/-- R300 `BIT 4,D`: 0xCB 0x62. -/
def execBit_4_D (s : State) : Result := retire 2 8 (bitR8 4 .d) s

/-- R300 `BIT 4,E`: 0xCB 0x63. -/
def execBit_4_E (s : State) : Result := retire 2 8 (bitR8 4 .e) s

/-- R300 `BIT 4,H`: 0xCB 0x64. -/
def execBit_4_H (s : State) : Result := retire 2 8 (bitR8 4 .h) s

/-- R300 `BIT 4,L`: 0xCB 0x65. -/
def execBit_4_L (s : State) : Result := retire 2 8 (bitR8 4 .l) s

/-- R301 `BIT 4,(HL)`: 0xCB 0x66. -/
def execBit_4_atHL (s : State) : Result := retire 2 12 (bitR8 4 .atHL) s

/-- R300 `BIT 4,A`: 0xCB 0x67. -/
def execBit_4_A (s : State) : Result := retire 2 8 (bitR8 4 .a) s

/-- R300 `BIT 5,B`: 0xCB 0x68. -/
def execBit_5_B (s : State) : Result := retire 2 8 (bitR8 5 .b) s

/-- R300 `BIT 5,C`: 0xCB 0x69. -/
def execBit_5_C (s : State) : Result := retire 2 8 (bitR8 5 .c) s

/-- R300 `BIT 5,D`: 0xCB 0x6A. -/
def execBit_5_D (s : State) : Result := retire 2 8 (bitR8 5 .d) s

/-- R300 `BIT 5,E`: 0xCB 0x6B. -/
def execBit_5_E (s : State) : Result := retire 2 8 (bitR8 5 .e) s

/-- R300 `BIT 5,H`: 0xCB 0x6C. -/
def execBit_5_H (s : State) : Result := retire 2 8 (bitR8 5 .h) s

/-- R300 `BIT 5,L`: 0xCB 0x6D. -/
def execBit_5_L (s : State) : Result := retire 2 8 (bitR8 5 .l) s

/-- R301 `BIT 5,(HL)`: 0xCB 0x6E. -/
def execBit_5_atHL (s : State) : Result := retire 2 12 (bitR8 5 .atHL) s

/-- R300 `BIT 5,A`: 0xCB 0x6F. -/
def execBit_5_A (s : State) : Result := retire 2 8 (bitR8 5 .a) s

/-- R300 `BIT 6,B`: 0xCB 0x70. -/
def execBit_6_B (s : State) : Result := retire 2 8 (bitR8 6 .b) s

/-- R300 `BIT 6,C`: 0xCB 0x71. -/
def execBit_6_C (s : State) : Result := retire 2 8 (bitR8 6 .c) s

/-- R300 `BIT 6,D`: 0xCB 0x72. -/
def execBit_6_D (s : State) : Result := retire 2 8 (bitR8 6 .d) s

/-- R300 `BIT 6,E`: 0xCB 0x73. -/
def execBit_6_E (s : State) : Result := retire 2 8 (bitR8 6 .e) s

/-- R300 `BIT 6,H`: 0xCB 0x74. -/
def execBit_6_H (s : State) : Result := retire 2 8 (bitR8 6 .h) s

/-- R300 `BIT 6,L`: 0xCB 0x75. -/
def execBit_6_L (s : State) : Result := retire 2 8 (bitR8 6 .l) s

/-- R301 `BIT 6,(HL)`: 0xCB 0x76. -/
def execBit_6_atHL (s : State) : Result := retire 2 12 (bitR8 6 .atHL) s

/-- R300 `BIT 6,A`: 0xCB 0x77. -/
def execBit_6_A (s : State) : Result := retire 2 8 (bitR8 6 .a) s

/-- R300 `BIT 7,B`: 0xCB 0x78. -/
def execBit_7_B (s : State) : Result := retire 2 8 (bitR8 7 .b) s

/-- R300 `BIT 7,C`: 0xCB 0x79. -/
def execBit_7_C (s : State) : Result := retire 2 8 (bitR8 7 .c) s

/-- R300 `BIT 7,D`: 0xCB 0x7A. -/
def execBit_7_D (s : State) : Result := retire 2 8 (bitR8 7 .d) s

/-- R300 `BIT 7,E`: 0xCB 0x7B. -/
def execBit_7_E (s : State) : Result := retire 2 8 (bitR8 7 .e) s

/-- R300 `BIT 7,H`: 0xCB 0x7C. -/
def execBit_7_H (s : State) : Result := retire 2 8 (bitR8 7 .h) s

/-- R300 `BIT 7,L`: 0xCB 0x7D. -/
def execBit_7_L (s : State) : Result := retire 2 8 (bitR8 7 .l) s

/-- R301 `BIT 7,(HL)`: 0xCB 0x7E. -/
def execBit_7_atHL (s : State) : Result := retire 2 12 (bitR8 7 .atHL) s

/-- R300 `BIT 7,A`: 0xCB 0x7F. -/
def execBit_7_A (s : State) : Result := retire 2 8 (bitR8 7 .a) s

/-- R302 `RES 0,B`: 0xCB 0x80. -/
def execRes_0_B (s : State) : Result := retire 2 8 (resR8 0 .b) s

/-- R302 `RES 0,C`: 0xCB 0x81. -/
def execRes_0_C (s : State) : Result := retire 2 8 (resR8 0 .c) s

/-- R302 `RES 0,D`: 0xCB 0x82. -/
def execRes_0_D (s : State) : Result := retire 2 8 (resR8 0 .d) s

/-- R302 `RES 0,E`: 0xCB 0x83. -/
def execRes_0_E (s : State) : Result := retire 2 8 (resR8 0 .e) s

/-- R302 `RES 0,H`: 0xCB 0x84. -/
def execRes_0_H (s : State) : Result := retire 2 8 (resR8 0 .h) s

/-- R302 `RES 0,L`: 0xCB 0x85. -/
def execRes_0_L (s : State) : Result := retire 2 8 (resR8 0 .l) s

/-- R303 `RES 0,(HL)`: 0xCB 0x86. -/
def execRes_0_atHL (s : State) : Result := retire 2 16 (resR8 0 .atHL) s

/-- R302 `RES 0,A`: 0xCB 0x87. -/
def execRes_0_A (s : State) : Result := retire 2 8 (resR8 0 .a) s

/-- R302 `RES 1,B`: 0xCB 0x88. -/
def execRes_1_B (s : State) : Result := retire 2 8 (resR8 1 .b) s

/-- R302 `RES 1,C`: 0xCB 0x89. -/
def execRes_1_C (s : State) : Result := retire 2 8 (resR8 1 .c) s

/-- R302 `RES 1,D`: 0xCB 0x8A. -/
def execRes_1_D (s : State) : Result := retire 2 8 (resR8 1 .d) s

/-- R302 `RES 1,E`: 0xCB 0x8B. -/
def execRes_1_E (s : State) : Result := retire 2 8 (resR8 1 .e) s

/-- R302 `RES 1,H`: 0xCB 0x8C. -/
def execRes_1_H (s : State) : Result := retire 2 8 (resR8 1 .h) s

/-- R302 `RES 1,L`: 0xCB 0x8D. -/
def execRes_1_L (s : State) : Result := retire 2 8 (resR8 1 .l) s

/-- R303 `RES 1,(HL)`: 0xCB 0x8E. -/
def execRes_1_atHL (s : State) : Result := retire 2 16 (resR8 1 .atHL) s

/-- R302 `RES 1,A`: 0xCB 0x8F. -/
def execRes_1_A (s : State) : Result := retire 2 8 (resR8 1 .a) s

/-- R302 `RES 2,B`: 0xCB 0x90. -/
def execRes_2_B (s : State) : Result := retire 2 8 (resR8 2 .b) s

/-- R302 `RES 2,C`: 0xCB 0x91. -/
def execRes_2_C (s : State) : Result := retire 2 8 (resR8 2 .c) s

/-- R302 `RES 2,D`: 0xCB 0x92. -/
def execRes_2_D (s : State) : Result := retire 2 8 (resR8 2 .d) s

/-- R302 `RES 2,E`: 0xCB 0x93. -/
def execRes_2_E (s : State) : Result := retire 2 8 (resR8 2 .e) s

/-- R302 `RES 2,H`: 0xCB 0x94. -/
def execRes_2_H (s : State) : Result := retire 2 8 (resR8 2 .h) s

/-- R302 `RES 2,L`: 0xCB 0x95. -/
def execRes_2_L (s : State) : Result := retire 2 8 (resR8 2 .l) s

/-- R303 `RES 2,(HL)`: 0xCB 0x96. -/
def execRes_2_atHL (s : State) : Result := retire 2 16 (resR8 2 .atHL) s

/-- R302 `RES 2,A`: 0xCB 0x97. -/
def execRes_2_A (s : State) : Result := retire 2 8 (resR8 2 .a) s

/-- R302 `RES 3,B`: 0xCB 0x98. -/
def execRes_3_B (s : State) : Result := retire 2 8 (resR8 3 .b) s

/-- R302 `RES 3,C`: 0xCB 0x99. -/
def execRes_3_C (s : State) : Result := retire 2 8 (resR8 3 .c) s

/-- R302 `RES 3,D`: 0xCB 0x9A. -/
def execRes_3_D (s : State) : Result := retire 2 8 (resR8 3 .d) s

/-- R302 `RES 3,E`: 0xCB 0x9B. -/
def execRes_3_E (s : State) : Result := retire 2 8 (resR8 3 .e) s

/-- R302 `RES 3,H`: 0xCB 0x9C. -/
def execRes_3_H (s : State) : Result := retire 2 8 (resR8 3 .h) s

/-- R302 `RES 3,L`: 0xCB 0x9D. -/
def execRes_3_L (s : State) : Result := retire 2 8 (resR8 3 .l) s

/-- R303 `RES 3,(HL)`: 0xCB 0x9E. -/
def execRes_3_atHL (s : State) : Result := retire 2 16 (resR8 3 .atHL) s

/-- R302 `RES 3,A`: 0xCB 0x9F. -/
def execRes_3_A (s : State) : Result := retire 2 8 (resR8 3 .a) s

/-- R302 `RES 4,B`: 0xCB 0xA0. -/
def execRes_4_B (s : State) : Result := retire 2 8 (resR8 4 .b) s

/-- R302 `RES 4,C`: 0xCB 0xA1. -/
def execRes_4_C (s : State) : Result := retire 2 8 (resR8 4 .c) s

/-- R302 `RES 4,D`: 0xCB 0xA2. -/
def execRes_4_D (s : State) : Result := retire 2 8 (resR8 4 .d) s

/-- R302 `RES 4,E`: 0xCB 0xA3. -/
def execRes_4_E (s : State) : Result := retire 2 8 (resR8 4 .e) s

/-- R302 `RES 4,H`: 0xCB 0xA4. -/
def execRes_4_H (s : State) : Result := retire 2 8 (resR8 4 .h) s

/-- R302 `RES 4,L`: 0xCB 0xA5. -/
def execRes_4_L (s : State) : Result := retire 2 8 (resR8 4 .l) s

/-- R303 `RES 4,(HL)`: 0xCB 0xA6. -/
def execRes_4_atHL (s : State) : Result := retire 2 16 (resR8 4 .atHL) s

/-- R302 `RES 4,A`: 0xCB 0xA7. -/
def execRes_4_A (s : State) : Result := retire 2 8 (resR8 4 .a) s

/-- R302 `RES 5,B`: 0xCB 0xA8. -/
def execRes_5_B (s : State) : Result := retire 2 8 (resR8 5 .b) s

/-- R302 `RES 5,C`: 0xCB 0xA9. -/
def execRes_5_C (s : State) : Result := retire 2 8 (resR8 5 .c) s

/-- R302 `RES 5,D`: 0xCB 0xAA. -/
def execRes_5_D (s : State) : Result := retire 2 8 (resR8 5 .d) s

/-- R302 `RES 5,E`: 0xCB 0xAB. -/
def execRes_5_E (s : State) : Result := retire 2 8 (resR8 5 .e) s

/-- R302 `RES 5,H`: 0xCB 0xAC. -/
def execRes_5_H (s : State) : Result := retire 2 8 (resR8 5 .h) s

/-- R302 `RES 5,L`: 0xCB 0xAD. -/
def execRes_5_L (s : State) : Result := retire 2 8 (resR8 5 .l) s

/-- R303 `RES 5,(HL)`: 0xCB 0xAE. -/
def execRes_5_atHL (s : State) : Result := retire 2 16 (resR8 5 .atHL) s

/-- R302 `RES 5,A`: 0xCB 0xAF. -/
def execRes_5_A (s : State) : Result := retire 2 8 (resR8 5 .a) s

/-- R302 `RES 6,B`: 0xCB 0xB0. -/
def execRes_6_B (s : State) : Result := retire 2 8 (resR8 6 .b) s

/-- R302 `RES 6,C`: 0xCB 0xB1. -/
def execRes_6_C (s : State) : Result := retire 2 8 (resR8 6 .c) s

/-- R302 `RES 6,D`: 0xCB 0xB2. -/
def execRes_6_D (s : State) : Result := retire 2 8 (resR8 6 .d) s

/-- R302 `RES 6,E`: 0xCB 0xB3. -/
def execRes_6_E (s : State) : Result := retire 2 8 (resR8 6 .e) s

/-- R302 `RES 6,H`: 0xCB 0xB4. -/
def execRes_6_H (s : State) : Result := retire 2 8 (resR8 6 .h) s

/-- R302 `RES 6,L`: 0xCB 0xB5. -/
def execRes_6_L (s : State) : Result := retire 2 8 (resR8 6 .l) s

/-- R303 `RES 6,(HL)`: 0xCB 0xB6. -/
def execRes_6_atHL (s : State) : Result := retire 2 16 (resR8 6 .atHL) s

/-- R302 `RES 6,A`: 0xCB 0xB7. -/
def execRes_6_A (s : State) : Result := retire 2 8 (resR8 6 .a) s

/-- R302 `RES 7,B`: 0xCB 0xB8. -/
def execRes_7_B (s : State) : Result := retire 2 8 (resR8 7 .b) s

/-- R302 `RES 7,C`: 0xCB 0xB9. -/
def execRes_7_C (s : State) : Result := retire 2 8 (resR8 7 .c) s

/-- R302 `RES 7,D`: 0xCB 0xBA. -/
def execRes_7_D (s : State) : Result := retire 2 8 (resR8 7 .d) s

/-- R302 `RES 7,E`: 0xCB 0xBB. -/
def execRes_7_E (s : State) : Result := retire 2 8 (resR8 7 .e) s

/-- R302 `RES 7,H`: 0xCB 0xBC. -/
def execRes_7_H (s : State) : Result := retire 2 8 (resR8 7 .h) s

/-- R302 `RES 7,L`: 0xCB 0xBD. -/
def execRes_7_L (s : State) : Result := retire 2 8 (resR8 7 .l) s

/-- R303 `RES 7,(HL)`: 0xCB 0xBE. -/
def execRes_7_atHL (s : State) : Result := retire 2 16 (resR8 7 .atHL) s

/-- R302 `RES 7,A`: 0xCB 0xBF. -/
def execRes_7_A (s : State) : Result := retire 2 8 (resR8 7 .a) s

/-- R304 `SET 0,B`: 0xCB 0xC0. -/
def execSet_0_B (s : State) : Result := retire 2 8 (setR8 0 .b) s

/-- R304 `SET 0,C`: 0xCB 0xC1. -/
def execSet_0_C (s : State) : Result := retire 2 8 (setR8 0 .c) s

/-- R304 `SET 0,D`: 0xCB 0xC2. -/
def execSet_0_D (s : State) : Result := retire 2 8 (setR8 0 .d) s

/-- R304 `SET 0,E`: 0xCB 0xC3. -/
def execSet_0_E (s : State) : Result := retire 2 8 (setR8 0 .e) s

/-- R304 `SET 0,H`: 0xCB 0xC4. -/
def execSet_0_H (s : State) : Result := retire 2 8 (setR8 0 .h) s

/-- R304 `SET 0,L`: 0xCB 0xC5. -/
def execSet_0_L (s : State) : Result := retire 2 8 (setR8 0 .l) s

/-- R305 `SET 0,(HL)`: 0xCB 0xC6. -/
def execSet_0_atHL (s : State) : Result := retire 2 16 (setR8 0 .atHL) s

/-- R304 `SET 0,A`: 0xCB 0xC7. -/
def execSet_0_A (s : State) : Result := retire 2 8 (setR8 0 .a) s

/-- R304 `SET 1,B`: 0xCB 0xC8. -/
def execSet_1_B (s : State) : Result := retire 2 8 (setR8 1 .b) s

/-- R304 `SET 1,C`: 0xCB 0xC9. -/
def execSet_1_C (s : State) : Result := retire 2 8 (setR8 1 .c) s

/-- R304 `SET 1,D`: 0xCB 0xCA. -/
def execSet_1_D (s : State) : Result := retire 2 8 (setR8 1 .d) s

/-- R304 `SET 1,E`: 0xCB 0xCB. -/
def execSet_1_E (s : State) : Result := retire 2 8 (setR8 1 .e) s

/-- R304 `SET 1,H`: 0xCB 0xCC. -/
def execSet_1_H (s : State) : Result := retire 2 8 (setR8 1 .h) s

/-- R304 `SET 1,L`: 0xCB 0xCD. -/
def execSet_1_L (s : State) : Result := retire 2 8 (setR8 1 .l) s

/-- R305 `SET 1,(HL)`: 0xCB 0xCE. -/
def execSet_1_atHL (s : State) : Result := retire 2 16 (setR8 1 .atHL) s

/-- R304 `SET 1,A`: 0xCB 0xCF. -/
def execSet_1_A (s : State) : Result := retire 2 8 (setR8 1 .a) s

/-- R304 `SET 2,B`: 0xCB 0xD0. -/
def execSet_2_B (s : State) : Result := retire 2 8 (setR8 2 .b) s

/-- R304 `SET 2,C`: 0xCB 0xD1. -/
def execSet_2_C (s : State) : Result := retire 2 8 (setR8 2 .c) s

/-- R304 `SET 2,D`: 0xCB 0xD2. -/
def execSet_2_D (s : State) : Result := retire 2 8 (setR8 2 .d) s

/-- R304 `SET 2,E`: 0xCB 0xD3. -/
def execSet_2_E (s : State) : Result := retire 2 8 (setR8 2 .e) s

/-- R304 `SET 2,H`: 0xCB 0xD4. -/
def execSet_2_H (s : State) : Result := retire 2 8 (setR8 2 .h) s

/-- R304 `SET 2,L`: 0xCB 0xD5. -/
def execSet_2_L (s : State) : Result := retire 2 8 (setR8 2 .l) s

/-- R305 `SET 2,(HL)`: 0xCB 0xD6. -/
def execSet_2_atHL (s : State) : Result := retire 2 16 (setR8 2 .atHL) s

/-- R304 `SET 2,A`: 0xCB 0xD7. -/
def execSet_2_A (s : State) : Result := retire 2 8 (setR8 2 .a) s

/-- R304 `SET 3,B`: 0xCB 0xD8. -/
def execSet_3_B (s : State) : Result := retire 2 8 (setR8 3 .b) s

/-- R304 `SET 3,C`: 0xCB 0xD9. -/
def execSet_3_C (s : State) : Result := retire 2 8 (setR8 3 .c) s

/-- R304 `SET 3,D`: 0xCB 0xDA. -/
def execSet_3_D (s : State) : Result := retire 2 8 (setR8 3 .d) s

/-- R304 `SET 3,E`: 0xCB 0xDB. -/
def execSet_3_E (s : State) : Result := retire 2 8 (setR8 3 .e) s

/-- R304 `SET 3,H`: 0xCB 0xDC. -/
def execSet_3_H (s : State) : Result := retire 2 8 (setR8 3 .h) s

/-- R304 `SET 3,L`: 0xCB 0xDD. -/
def execSet_3_L (s : State) : Result := retire 2 8 (setR8 3 .l) s

/-- R305 `SET 3,(HL)`: 0xCB 0xDE. -/
def execSet_3_atHL (s : State) : Result := retire 2 16 (setR8 3 .atHL) s

/-- R304 `SET 3,A`: 0xCB 0xDF. -/
def execSet_3_A (s : State) : Result := retire 2 8 (setR8 3 .a) s

/-- R304 `SET 4,B`: 0xCB 0xE0. -/
def execSet_4_B (s : State) : Result := retire 2 8 (setR8 4 .b) s

/-- R304 `SET 4,C`: 0xCB 0xE1. -/
def execSet_4_C (s : State) : Result := retire 2 8 (setR8 4 .c) s

/-- R304 `SET 4,D`: 0xCB 0xE2. -/
def execSet_4_D (s : State) : Result := retire 2 8 (setR8 4 .d) s

/-- R304 `SET 4,E`: 0xCB 0xE3. -/
def execSet_4_E (s : State) : Result := retire 2 8 (setR8 4 .e) s

/-- R304 `SET 4,H`: 0xCB 0xE4. -/
def execSet_4_H (s : State) : Result := retire 2 8 (setR8 4 .h) s

/-- R304 `SET 4,L`: 0xCB 0xE5. -/
def execSet_4_L (s : State) : Result := retire 2 8 (setR8 4 .l) s

/-- R305 `SET 4,(HL)`: 0xCB 0xE6. -/
def execSet_4_atHL (s : State) : Result := retire 2 16 (setR8 4 .atHL) s

/-- R304 `SET 4,A`: 0xCB 0xE7. -/
def execSet_4_A (s : State) : Result := retire 2 8 (setR8 4 .a) s

/-- R304 `SET 5,B`: 0xCB 0xE8. -/
def execSet_5_B (s : State) : Result := retire 2 8 (setR8 5 .b) s

/-- R304 `SET 5,C`: 0xCB 0xE9. -/
def execSet_5_C (s : State) : Result := retire 2 8 (setR8 5 .c) s

/-- R304 `SET 5,D`: 0xCB 0xEA. -/
def execSet_5_D (s : State) : Result := retire 2 8 (setR8 5 .d) s

/-- R304 `SET 5,E`: 0xCB 0xEB. -/
def execSet_5_E (s : State) : Result := retire 2 8 (setR8 5 .e) s

/-- R304 `SET 5,H`: 0xCB 0xEC. -/
def execSet_5_H (s : State) : Result := retire 2 8 (setR8 5 .h) s

/-- R304 `SET 5,L`: 0xCB 0xED. -/
def execSet_5_L (s : State) : Result := retire 2 8 (setR8 5 .l) s

/-- R305 `SET 5,(HL)`: 0xCB 0xEE. -/
def execSet_5_atHL (s : State) : Result := retire 2 16 (setR8 5 .atHL) s

/-- R304 `SET 5,A`: 0xCB 0xEF. -/
def execSet_5_A (s : State) : Result := retire 2 8 (setR8 5 .a) s

/-- R304 `SET 6,B`: 0xCB 0xF0. -/
def execSet_6_B (s : State) : Result := retire 2 8 (setR8 6 .b) s

/-- R304 `SET 6,C`: 0xCB 0xF1. -/
def execSet_6_C (s : State) : Result := retire 2 8 (setR8 6 .c) s

/-- R304 `SET 6,D`: 0xCB 0xF2. -/
def execSet_6_D (s : State) : Result := retire 2 8 (setR8 6 .d) s

/-- R304 `SET 6,E`: 0xCB 0xF3. -/
def execSet_6_E (s : State) : Result := retire 2 8 (setR8 6 .e) s

/-- R304 `SET 6,H`: 0xCB 0xF4. -/
def execSet_6_H (s : State) : Result := retire 2 8 (setR8 6 .h) s

/-- R304 `SET 6,L`: 0xCB 0xF5. -/
def execSet_6_L (s : State) : Result := retire 2 8 (setR8 6 .l) s

/-- R305 `SET 6,(HL)`: 0xCB 0xF6. -/
def execSet_6_atHL (s : State) : Result := retire 2 16 (setR8 6 .atHL) s

/-- R304 `SET 6,A`: 0xCB 0xF7. -/
def execSet_6_A (s : State) : Result := retire 2 8 (setR8 6 .a) s

/-- R304 `SET 7,B`: 0xCB 0xF8. -/
def execSet_7_B (s : State) : Result := retire 2 8 (setR8 7 .b) s

/-- R304 `SET 7,C`: 0xCB 0xF9. -/
def execSet_7_C (s : State) : Result := retire 2 8 (setR8 7 .c) s

/-- R304 `SET 7,D`: 0xCB 0xFA. -/
def execSet_7_D (s : State) : Result := retire 2 8 (setR8 7 .d) s

/-- R304 `SET 7,E`: 0xCB 0xFB. -/
def execSet_7_E (s : State) : Result := retire 2 8 (setR8 7 .e) s

/-- R304 `SET 7,H`: 0xCB 0xFC. -/
def execSet_7_H (s : State) : Result := retire 2 8 (setR8 7 .h) s

/-- R304 `SET 7,L`: 0xCB 0xFD. -/
def execSet_7_L (s : State) : Result := retire 2 8 (setR8 7 .l) s

/-- R305 `SET 7,(HL)`: 0xCB 0xFE. -/
def execSet_7_atHL (s : State) : Result := retire 2 16 (setR8 7 .atHL) s

/-- R304 `SET 7,A`: 0xCB 0xFF. -/
def execSet_7_A (s : State) : Result := retire 2 8 (setR8 7 .a) s

end Sys2Proof.Machine
end

