-- ==== Sys2Proof/Machine/Control.lean ====
section
/-! DEFINITION. Jumps, calls, returns and restarts (45_control_transfer R321 to R340). One meaning per row of the opcode table, each over the shared
effects of Operands.lean; the two numbers are the length in bytes and the cost in cycles (30_encoding R159, R161). -/

namespace Sys2Proof.Machine

/-- JP HL (45 R323): the target is HL itself. -/
def jumpHL (s : State) : State := jumpTo (s.reg16 .hl) s

/-- R324 `JR e8`: 0x18. -/
def execJr_e8 (e8 : Byte) (s : State) : Result := retire 2 12 (jumpRel e8) s

/-- R325 `JR NZ,e8`: 0x20. -/
def execJr_NZ_e8 (e8 : Byte) (s : State) : Result := retireIf (condHolds .nz) 2 8 12 (jumpRel e8) s

/-- R325 `JR Z,e8`: 0x28. -/
def execJr_Z_e8 (e8 : Byte) (s : State) : Result := retireIf (condHolds .z) 2 8 12 (jumpRel e8) s

/-- R325 `JR NC,e8`: 0x30. -/
def execJr_NC_e8 (e8 : Byte) (s : State) : Result := retireIf (condHolds .nc) 2 8 12 (jumpRel e8) s

/-- R325 `JR C,e8`: 0x38. -/
def execJr_C_e8 (e8 : Byte) (s : State) : Result := retireIf (condHolds .c) 2 8 12 (jumpRel e8) s

/-- R329 `RET NZ`: 0xC0. -/
def execRet_NZ (s : State) : Result := retireIf (condHolds .nz) 1 8 20 returnTo s

/-- R322 `JP NZ,a16`: 0xC2. -/
def execJp_NZ_a16 (a16 : Word) (s : State) : Result := retireIf (condHolds .nz) 3 12 16 (jumpTo a16) s

/-- R321 `JP a16`: 0xC3. -/
def execJp_a16 (a16 : Word) (s : State) : Result := retire 3 16 (jumpTo a16) s

/-- R327 `CALL NZ,a16`: 0xC4. -/
def execCall_NZ_a16 (a16 : Word) (s : State) : Result := retireIf (condHolds .nz) 3 12 24 (callTo a16) s

/-- R340 `RST 00H`: 0xC7. -/
def execRst_00H (s : State) : Result := retire 1 16 (callTo 0x00) s

/-- R329 `RET Z`: 0xC8. -/
def execRet_Z (s : State) : Result := retireIf (condHolds .z) 1 8 20 returnTo s

/-- R328 `RET`: 0xC9. -/
def execRet (s : State) : Result := retire 1 16 returnTo s

/-- R322 `JP Z,a16`: 0xCA. -/
def execJp_Z_a16 (a16 : Word) (s : State) : Result := retireIf (condHolds .z) 3 12 16 (jumpTo a16) s

/-- R327 `CALL Z,a16`: 0xCC. -/
def execCall_Z_a16 (a16 : Word) (s : State) : Result := retireIf (condHolds .z) 3 12 24 (callTo a16) s

/-- R326 `CALL a16`: 0xCD. -/
def execCall_a16 (a16 : Word) (s : State) : Result := retire 3 24 (callTo a16) s

/-- R340 `RST 08H`: 0xCF. -/
def execRst_08H (s : State) : Result := retire 1 16 (callTo 0x08) s

/-- R329 `RET NC`: 0xD0. -/
def execRet_NC (s : State) : Result := retireIf (condHolds .nc) 1 8 20 returnTo s

/-- R322 `JP NC,a16`: 0xD2. -/
def execJp_NC_a16 (a16 : Word) (s : State) : Result := retireIf (condHolds .nc) 3 12 16 (jumpTo a16) s

/-- R327 `CALL NC,a16`: 0xD4. -/
def execCall_NC_a16 (a16 : Word) (s : State) : Result := retireIf (condHolds .nc) 3 12 24 (callTo a16) s

/-- R340 `RST 10H`: 0xD7. -/
def execRst_10H (s : State) : Result := retire 1 16 (callTo 0x10) s

/-- R329 `RET C`: 0xD8. -/
def execRet_C (s : State) : Result := retireIf (condHolds .c) 1 8 20 returnTo s

/-- R330 `RETI`: 0xD9. -/
def execReti (s : State) : Result := retire 1 16 returnFromInterrupt s

/-- R322 `JP C,a16`: 0xDA. -/
def execJp_C_a16 (a16 : Word) (s : State) : Result := retireIf (condHolds .c) 3 12 16 (jumpTo a16) s

/-- R327 `CALL C,a16`: 0xDC. -/
def execCall_C_a16 (a16 : Word) (s : State) : Result := retireIf (condHolds .c) 3 12 24 (callTo a16) s

/-- R340 `RST 18H`: 0xDF. -/
def execRst_18H (s : State) : Result := retire 1 16 (callTo 0x18) s

/-- R340 `RST 20H`: 0xE7. -/
def execRst_20H (s : State) : Result := retire 1 16 (callTo 0x20) s

/-- R323 `JP HL`: 0xE9. -/
def execJp_HL (s : State) : Result := retire 1 4 jumpHL s

/-- R340 `RST 28H`: 0xEF. -/
def execRst_28H (s : State) : Result := retire 1 16 (callTo 0x28) s

/-- R340 `RST 30H`: 0xF7. -/
def execRst_30H (s : State) : Result := retire 1 16 (callTo 0x30) s

/-- R340 `RST 38H`: 0xFF. -/
def execRst_38H (s : State) : Result := retire 1 16 (callTo 0x38) s

end Sys2Proof.Machine
end

