-- ==== Sys2Proof/Machine/CpuControl.lean ====
section
/-! DEFINITION. CPU control (48_cpu_control R400 to R406). One meaning per row of the opcode table, each over the shared
effects of Operands.lean; the two numbers are the length in bytes and the cost in cycles (30_encoding R159, R161). -/

namespace Sys2Proof.Machine

/-- SCF (48 R401). -/
def setCarry (s : State) : State := s.putFlags s.flagZ false false true

/-- CCF (48 R402). -/
def flipCarry (s : State) : State := s.putFlags s.flagZ false false (!s.flagC)

/-- EI (48 R403): at once, or pending when `EI_DELAY`. DEDUCED (log 15): with IME already 1 the pending bit is set all the
same, as the rule's pseudocode has it. -/
def enableInterrupts (s : State) : State :=
  if s.cfg.eiDelay then { s with eiPending := true } else { s with ime := true }

/-- DI (48 R404): at once, cancelling a pending EI. -/
def disableInterrupts (s : State) : State := { s with ime := false, eiPending := false }

/-- HALT (48 R405; 60 R531). -/
def haltCpu (s : State) : State :=
  if s.cfg.haltBug = true ∧ s.ime = false ∧ pending s ≠ 0 then { s with haltBug := true } else { s with halted := true }

/-- STOP (48 R406): the divider is reset; the second byte is ignored. -/
def stopCpu (s : State) : State := { s with stopped := true, div := 0 }

/-- R400 `NOP`: 0x00. -/
def execNop (s : State) : Result := retire 1 4 id s

/-- R406 `STOP`: 0x10. -/
def execStop (_second : Byte) (s : State) : Result := retire 2 4 stopCpu s

/-- R401 `SCF`: 0x37. -/
def execScf (s : State) : Result := retire 1 4 setCarry s

/-- R402 `CCF`: 0x3F. -/
def execCcf (s : State) : Result := retire 1 4 flipCarry s

/-- R405 `HALT`: 0x76. -/
def execHalt (s : State) : Result := retire 1 4 haltCpu s

/-- R404 `DI`: 0xF3. -/
def execDi (s : State) : Result := retire 1 4 disableInterrupts s

/-- R403 `EI`: 0xFB. -/
def execEi (s : State) : Result := retire 1 4 enableInterrupts s

end Sys2Proof.Machine
end

