-- ==== Sys2Proof/Machine/Illegal.lean ====
section
/-! DEFINITION. The eleven illegal bytes (30_encoding R162, 60_exceptions R540): each records the decode fault. One meaning per row of the opcode table, each over the shared
effects of Operands.lean; the two numbers are the length in bytes and the cost in cycles (30_encoding R159, R161). -/

namespace Sys2Proof.Machine

/-- R162: illegal byte 0xD3. -/
def execIllegal_D3 (s : State) : Result := raiseIllegal 0xD3 s

/-- R162: illegal byte 0xDB. -/
def execIllegal_DB (s : State) : Result := raiseIllegal 0xDB s

/-- R162: illegal byte 0xDD. -/
def execIllegal_DD (s : State) : Result := raiseIllegal 0xDD s

/-- R162: illegal byte 0xE3. -/
def execIllegal_E3 (s : State) : Result := raiseIllegal 0xE3 s

/-- R162: illegal byte 0xE4. -/
def execIllegal_E4 (s : State) : Result := raiseIllegal 0xE4 s

/-- R162: illegal byte 0xEB. -/
def execIllegal_EB (s : State) : Result := raiseIllegal 0xEB s

/-- R162: illegal byte 0xEC. -/
def execIllegal_EC (s : State) : Result := raiseIllegal 0xEC s

/-- R162: illegal byte 0xED. -/
def execIllegal_ED (s : State) : Result := raiseIllegal 0xED s

/-- R162: illegal byte 0xF4. -/
def execIllegal_F4 (s : State) : Result := raiseIllegal 0xF4 s

/-- R162: illegal byte 0xFC. -/
def execIllegal_FC (s : State) : Result := raiseIllegal 0xFC s

/-- R162: illegal byte 0xFD. -/
def execIllegal_FD (s : State) : Result := raiseIllegal 0xFD s

end Sys2Proof.Machine
end

