-- ==== Sys2Proof/Machine/Loads.lean ====
section
/-! DEFINITION. Loads and stores (46_loads R350 to R371). One meaning per row of the opcode table, each over the shared
effects of Operands.lean; the two numbers are the length in bytes and the cost in cycles (30_encoding R159, R161). -/

namespace Sys2Proof.Machine

/-- LD rr,d16 (46_loads R369). -/
def loadR16 (r : Reg16) (n : Word) (s : State) : State := s.setReg16 r n

/-- LD (a16),SP (46_loads R370): low byte at a16, then high byte at a16 + 1. -/
def storeSP (x : Word) (s : State) : State := writeWord x s.sp s

/-- LD SP,HL (46_loads R371). -/
def loadSPHL (s : State) : State := s.setReg16 .sp (s.reg16 .hl)

/-- R369 `LD BC,d16`: 0x01. -/
def execLd_BC_d16 (d16 : Word) (s : State) : Result := retire 3 12 (loadR16 .bc d16) s

/-- R357 `LD (BC),A`: 0x02. -/
def execLd_atBC_A (s : State) : Result := retire 1 8 (storeA (.reg .bc)) s

/-- R351 `LD B,d8`: 0x06. -/
def execLd_B_d8 (d8 : Byte) (s : State) : Result := retire 2 8 (loadImm .b d8) s

/-- R370 `LD (a16),SP`: 0x08. -/
def execLd_atA16_SP (a16 : Word) (s : State) : Result := retire 3 20 (storeSP a16) s

/-- R355 `LD A,(BC)`: 0x0A. -/
def execLd_A_atBC (s : State) : Result := retire 1 8 (loadA (.reg .bc)) s

/-- R351 `LD C,d8`: 0x0E. -/
def execLd_C_d8 (d8 : Byte) (s : State) : Result := retire 2 8 (loadImm .c d8) s

/-- R369 `LD DE,d16`: 0x11. -/
def execLd_DE_d16 (d16 : Word) (s : State) : Result := retire 3 12 (loadR16 .de d16) s

/-- R358 `LD (DE),A`: 0x12. -/
def execLd_atDE_A (s : State) : Result := retire 1 8 (storeA (.reg .de)) s

/-- R351 `LD D,d8`: 0x16. -/
def execLd_D_d8 (d8 : Byte) (s : State) : Result := retire 2 8 (loadImm .d d8) s

/-- R356 `LD A,(DE)`: 0x1A. -/
def execLd_A_atDE (s : State) : Result := retire 1 8 (loadA (.reg .de)) s

/-- R351 `LD E,d8`: 0x1E. -/
def execLd_E_d8 (d8 : Byte) (s : State) : Result := retire 2 8 (loadImm .e d8) s

/-- R369 `LD HL,d16`: 0x21. -/
def execLd_HL_d16 (d16 : Word) (s : State) : Result := retire 3 12 (loadR16 .hl d16) s

/-- R367 `LD (HL+),A`: 0x22. -/
def execLd_atHLinc_A (s : State) : Result := retire 1 8 (storeAStep 1) s

/-- R351 `LD H,d8`: 0x26. -/
def execLd_H_d8 (d8 : Byte) (s : State) : Result := retire 2 8 (loadImm .h d8) s

/-- R365 `LD A,(HL+)`: 0x2A. -/
def execLd_A_atHLinc (s : State) : Result := retire 1 8 (loadAStep 1) s

/-- R351 `LD L,d8`: 0x2E. -/
def execLd_L_d8 (d8 : Byte) (s : State) : Result := retire 2 8 (loadImm .l d8) s

/-- R369 `LD SP,d16`: 0x31. -/
def execLd_SP_d16 (d16 : Word) (s : State) : Result := retire 3 12 (loadR16 .sp d16) s

/-- R368 `LD (HL-),A`: 0x32. -/
def execLd_atHLdec_A (s : State) : Result := retire 1 8 (storeAStep (-1)) s

/-- R354 `LD (HL),d8`: 0x36. -/
def execLd_atHL_d8 (d8 : Byte) (s : State) : Result := retire 2 12 (loadImm .atHL d8) s

/-- R366 `LD A,(HL-)`: 0x3A. -/
def execLd_A_atHLdec (s : State) : Result := retire 1 8 (loadAStep (-1)) s

/-- R351 `LD A,d8`: 0x3E. -/
def execLd_A_d8 (d8 : Byte) (s : State) : Result := retire 2 8 (loadImm .a d8) s

/-- R350 `LD B,B`: 0x40. -/
def execLd_B_B (s : State) : Result := retire 1 4 (loadR8 .b .b) s

/-- R350 `LD B,C`: 0x41. -/
def execLd_B_C (s : State) : Result := retire 1 4 (loadR8 .b .c) s

/-- R350 `LD B,D`: 0x42. -/
def execLd_B_D (s : State) : Result := retire 1 4 (loadR8 .b .d) s

/-- R350 `LD B,E`: 0x43. -/
def execLd_B_E (s : State) : Result := retire 1 4 (loadR8 .b .e) s

/-- R350 `LD B,H`: 0x44. -/
def execLd_B_H (s : State) : Result := retire 1 4 (loadR8 .b .h) s

/-- R350 `LD B,L`: 0x45. -/
def execLd_B_L (s : State) : Result := retire 1 4 (loadR8 .b .l) s

/-- R352 `LD B,(HL)`: 0x46. -/
def execLd_B_atHL (s : State) : Result := retire 1 8 (loadR8 .b .atHL) s

/-- R350 `LD B,A`: 0x47. -/
def execLd_B_A (s : State) : Result := retire 1 4 (loadR8 .b .a) s

/-- R350 `LD C,B`: 0x48. -/
def execLd_C_B (s : State) : Result := retire 1 4 (loadR8 .c .b) s

/-- R350 `LD C,C`: 0x49. -/
def execLd_C_C (s : State) : Result := retire 1 4 (loadR8 .c .c) s

/-- R350 `LD C,D`: 0x4A. -/
def execLd_C_D (s : State) : Result := retire 1 4 (loadR8 .c .d) s

/-- R350 `LD C,E`: 0x4B. -/
def execLd_C_E (s : State) : Result := retire 1 4 (loadR8 .c .e) s

/-- R350 `LD C,H`: 0x4C. -/
def execLd_C_H (s : State) : Result := retire 1 4 (loadR8 .c .h) s

/-- R350 `LD C,L`: 0x4D. -/
def execLd_C_L (s : State) : Result := retire 1 4 (loadR8 .c .l) s

/-- R352 `LD C,(HL)`: 0x4E. -/
def execLd_C_atHL (s : State) : Result := retire 1 8 (loadR8 .c .atHL) s

/-- R350 `LD C,A`: 0x4F. -/
def execLd_C_A (s : State) : Result := retire 1 4 (loadR8 .c .a) s

/-- R350 `LD D,B`: 0x50. -/
def execLd_D_B (s : State) : Result := retire 1 4 (loadR8 .d .b) s

/-- R350 `LD D,C`: 0x51. -/
def execLd_D_C (s : State) : Result := retire 1 4 (loadR8 .d .c) s

/-- R350 `LD D,D`: 0x52. -/
def execLd_D_D (s : State) : Result := retire 1 4 (loadR8 .d .d) s

/-- R350 `LD D,E`: 0x53. -/
def execLd_D_E (s : State) : Result := retire 1 4 (loadR8 .d .e) s

/-- R350 `LD D,H`: 0x54. -/
def execLd_D_H (s : State) : Result := retire 1 4 (loadR8 .d .h) s

/-- R350 `LD D,L`: 0x55. -/
def execLd_D_L (s : State) : Result := retire 1 4 (loadR8 .d .l) s

/-- R352 `LD D,(HL)`: 0x56. -/
def execLd_D_atHL (s : State) : Result := retire 1 8 (loadR8 .d .atHL) s

/-- R350 `LD D,A`: 0x57. -/
def execLd_D_A (s : State) : Result := retire 1 4 (loadR8 .d .a) s

/-- R350 `LD E,B`: 0x58. -/
def execLd_E_B (s : State) : Result := retire 1 4 (loadR8 .e .b) s

/-- R350 `LD E,C`: 0x59. -/
def execLd_E_C (s : State) : Result := retire 1 4 (loadR8 .e .c) s

/-- R350 `LD E,D`: 0x5A. -/
def execLd_E_D (s : State) : Result := retire 1 4 (loadR8 .e .d) s

/-- R350 `LD E,E`: 0x5B. -/
def execLd_E_E (s : State) : Result := retire 1 4 (loadR8 .e .e) s

/-- R350 `LD E,H`: 0x5C. -/
def execLd_E_H (s : State) : Result := retire 1 4 (loadR8 .e .h) s

/-- R350 `LD E,L`: 0x5D. -/
def execLd_E_L (s : State) : Result := retire 1 4 (loadR8 .e .l) s

/-- R352 `LD E,(HL)`: 0x5E. -/
def execLd_E_atHL (s : State) : Result := retire 1 8 (loadR8 .e .atHL) s

/-- R350 `LD E,A`: 0x5F. -/
def execLd_E_A (s : State) : Result := retire 1 4 (loadR8 .e .a) s

/-- R350 `LD H,B`: 0x60. -/
def execLd_H_B (s : State) : Result := retire 1 4 (loadR8 .h .b) s

/-- R350 `LD H,C`: 0x61. -/
def execLd_H_C (s : State) : Result := retire 1 4 (loadR8 .h .c) s

/-- R350 `LD H,D`: 0x62. -/
def execLd_H_D (s : State) : Result := retire 1 4 (loadR8 .h .d) s

/-- R350 `LD H,E`: 0x63. -/
def execLd_H_E (s : State) : Result := retire 1 4 (loadR8 .h .e) s

/-- R350 `LD H,H`: 0x64. -/
def execLd_H_H (s : State) : Result := retire 1 4 (loadR8 .h .h) s

/-- R350 `LD H,L`: 0x65. -/
def execLd_H_L (s : State) : Result := retire 1 4 (loadR8 .h .l) s

/-- R352 `LD H,(HL)`: 0x66. -/
def execLd_H_atHL (s : State) : Result := retire 1 8 (loadR8 .h .atHL) s

/-- R350 `LD H,A`: 0x67. -/
def execLd_H_A (s : State) : Result := retire 1 4 (loadR8 .h .a) s

/-- R350 `LD L,B`: 0x68. -/
def execLd_L_B (s : State) : Result := retire 1 4 (loadR8 .l .b) s

/-- R350 `LD L,C`: 0x69. -/
def execLd_L_C (s : State) : Result := retire 1 4 (loadR8 .l .c) s

/-- R350 `LD L,D`: 0x6A. -/
def execLd_L_D (s : State) : Result := retire 1 4 (loadR8 .l .d) s

/-- R350 `LD L,E`: 0x6B. -/
def execLd_L_E (s : State) : Result := retire 1 4 (loadR8 .l .e) s

/-- R350 `LD L,H`: 0x6C. -/
def execLd_L_H (s : State) : Result := retire 1 4 (loadR8 .l .h) s

/-- R350 `LD L,L`: 0x6D. -/
def execLd_L_L (s : State) : Result := retire 1 4 (loadR8 .l .l) s

/-- R352 `LD L,(HL)`: 0x6E. -/
def execLd_L_atHL (s : State) : Result := retire 1 8 (loadR8 .l .atHL) s

/-- R350 `LD L,A`: 0x6F. -/
def execLd_L_A (s : State) : Result := retire 1 4 (loadR8 .l .a) s

/-- R353 `LD (HL),B`: 0x70. -/
def execLd_atHL_B (s : State) : Result := retire 1 8 (loadR8 .atHL .b) s

/-- R353 `LD (HL),C`: 0x71. -/
def execLd_atHL_C (s : State) : Result := retire 1 8 (loadR8 .atHL .c) s

/-- R353 `LD (HL),D`: 0x72. -/
def execLd_atHL_D (s : State) : Result := retire 1 8 (loadR8 .atHL .d) s

/-- R353 `LD (HL),E`: 0x73. -/
def execLd_atHL_E (s : State) : Result := retire 1 8 (loadR8 .atHL .e) s

/-- R353 `LD (HL),H`: 0x74. -/
def execLd_atHL_H (s : State) : Result := retire 1 8 (loadR8 .atHL .h) s

/-- R353 `LD (HL),L`: 0x75. -/
def execLd_atHL_L (s : State) : Result := retire 1 8 (loadR8 .atHL .l) s

/-- R353 `LD (HL),A`: 0x77. -/
def execLd_atHL_A (s : State) : Result := retire 1 8 (loadR8 .atHL .a) s

/-- R350 `LD A,B`: 0x78. -/
def execLd_A_B (s : State) : Result := retire 1 4 (loadR8 .a .b) s

/-- R350 `LD A,C`: 0x79. -/
def execLd_A_C (s : State) : Result := retire 1 4 (loadR8 .a .c) s

/-- R350 `LD A,D`: 0x7A. -/
def execLd_A_D (s : State) : Result := retire 1 4 (loadR8 .a .d) s

/-- R350 `LD A,E`: 0x7B. -/
def execLd_A_E (s : State) : Result := retire 1 4 (loadR8 .a .e) s

/-- R350 `LD A,H`: 0x7C. -/
def execLd_A_H (s : State) : Result := retire 1 4 (loadR8 .a .h) s

/-- R350 `LD A,L`: 0x7D. -/
def execLd_A_L (s : State) : Result := retire 1 4 (loadR8 .a .l) s

/-- R352 `LD A,(HL)`: 0x7E. -/
def execLd_A_atHL (s : State) : Result := retire 1 8 (loadR8 .a .atHL) s

/-- R350 `LD A,A`: 0x7F. -/
def execLd_A_A (s : State) : Result := retire 1 4 (loadR8 .a .a) s

/-- R362 `LDH (a8),A`: 0xE0. -/
def execLdh_atA8_A (a8 : Byte) (s : State) : Result := retire 2 12 (storeA (.page a8)) s

/-- R364 `LD (C),A`: 0xE2. -/
def execLd_atC_A (s : State) : Result := retire 1 8 (storeA .pageC) s

/-- R360 `LD (a16),A`: 0xEA. -/
def execLd_atA16_A (a16 : Word) (s : State) : Result := retire 3 16 (storeA (.abs a16)) s

/-- R361 `LDH A,(a8)`: 0xF0. -/
def execLdh_A_atA8 (a8 : Byte) (s : State) : Result := retire 2 12 (loadA (.page a8)) s

/-- R363 `LD A,(C)`: 0xF2. -/
def execLd_A_atC (s : State) : Result := retire 1 8 (loadA .pageC) s

/-- R371 `LD SP,HL`: 0xF9. -/
def execLd_SP_HL (s : State) : Result := retire 1 8 loadSPHL s

/-- R359 `LD A,(a16)`: 0xFA. -/
def execLd_A_atA16 (a16 : Word) (s : State) : Result := retire 3 16 (loadA (.abs a16)) s

end Sys2Proof.Machine
end

