-- ==== Sys2Proof/Machine/RotateShift.lean ====
section
/-! DEFINITION. Rotates, shifts and SWAP (43_rotate_shift R270 to R289). One meaning per row of the opcode table, each over the shared
effects of Operands.lean; the two numbers are the length in bytes and the cost in cycles (30_encoding R159, R161). -/

namespace Sys2Proof.Machine

/-- R270 `RLCA`: 0x07. -/
def execRlca (s : State) : Result := retire 1 4 (rotA .rlc) s

/-- R271 `RRCA`: 0x0F. -/
def execRrca (s : State) : Result := retire 1 4 (rotA .rrc) s

/-- R272 `RLA`: 0x17. -/
def execRla (s : State) : Result := retire 1 4 (rotA .rl) s

/-- R273 `RRA`: 0x1F. -/
def execRra (s : State) : Result := retire 1 4 (rotA .rr) s

/-- R274 `RLC B`: 0xCB 0x00. -/
def execRlc_B (s : State) : Result := retire 2 8 (rotR8 .rlc .b) s

/-- R274 `RLC C`: 0xCB 0x01. -/
def execRlc_C (s : State) : Result := retire 2 8 (rotR8 .rlc .c) s

/-- R274 `RLC D`: 0xCB 0x02. -/
def execRlc_D (s : State) : Result := retire 2 8 (rotR8 .rlc .d) s

/-- R274 `RLC E`: 0xCB 0x03. -/
def execRlc_E (s : State) : Result := retire 2 8 (rotR8 .rlc .e) s

/-- R274 `RLC H`: 0xCB 0x04. -/
def execRlc_H (s : State) : Result := retire 2 8 (rotR8 .rlc .h) s

/-- R274 `RLC L`: 0xCB 0x05. -/
def execRlc_L (s : State) : Result := retire 2 8 (rotR8 .rlc .l) s

/-- R275 `RLC (HL)`: 0xCB 0x06. -/
def execRlc_atHL (s : State) : Result := retire 2 16 (rotR8 .rlc .atHL) s

/-- R274 `RLC A`: 0xCB 0x07. -/
def execRlc_A (s : State) : Result := retire 2 8 (rotR8 .rlc .a) s

/-- R276 `RRC B`: 0xCB 0x08. -/
def execRrc_B (s : State) : Result := retire 2 8 (rotR8 .rrc .b) s

/-- R276 `RRC C`: 0xCB 0x09. -/
def execRrc_C (s : State) : Result := retire 2 8 (rotR8 .rrc .c) s

/-- R276 `RRC D`: 0xCB 0x0A. -/
def execRrc_D (s : State) : Result := retire 2 8 (rotR8 .rrc .d) s

/-- R276 `RRC E`: 0xCB 0x0B. -/
def execRrc_E (s : State) : Result := retire 2 8 (rotR8 .rrc .e) s

/-- R276 `RRC H`: 0xCB 0x0C. -/
def execRrc_H (s : State) : Result := retire 2 8 (rotR8 .rrc .h) s

/-- R276 `RRC L`: 0xCB 0x0D. -/
def execRrc_L (s : State) : Result := retire 2 8 (rotR8 .rrc .l) s

/-- R277 `RRC (HL)`: 0xCB 0x0E. -/
def execRrc_atHL (s : State) : Result := retire 2 16 (rotR8 .rrc .atHL) s

/-- R276 `RRC A`: 0xCB 0x0F. -/
def execRrc_A (s : State) : Result := retire 2 8 (rotR8 .rrc .a) s

/-- R278 `RL B`: 0xCB 0x10. -/
def execRl_B (s : State) : Result := retire 2 8 (rotR8 .rl .b) s

/-- R278 `RL C`: 0xCB 0x11. -/
def execRl_C (s : State) : Result := retire 2 8 (rotR8 .rl .c) s

/-- R278 `RL D`: 0xCB 0x12. -/
def execRl_D (s : State) : Result := retire 2 8 (rotR8 .rl .d) s

/-- R278 `RL E`: 0xCB 0x13. -/
def execRl_E (s : State) : Result := retire 2 8 (rotR8 .rl .e) s

/-- R278 `RL H`: 0xCB 0x14. -/
def execRl_H (s : State) : Result := retire 2 8 (rotR8 .rl .h) s

/-- R278 `RL L`: 0xCB 0x15. -/
def execRl_L (s : State) : Result := retire 2 8 (rotR8 .rl .l) s

/-- R279 `RL (HL)`: 0xCB 0x16. -/
def execRl_atHL (s : State) : Result := retire 2 16 (rotR8 .rl .atHL) s

/-- R278 `RL A`: 0xCB 0x17. -/
def execRl_A (s : State) : Result := retire 2 8 (rotR8 .rl .a) s

/-- R280 `RR B`: 0xCB 0x18. -/
def execRr_B (s : State) : Result := retire 2 8 (rotR8 .rr .b) s

/-- R280 `RR C`: 0xCB 0x19. -/
def execRr_C (s : State) : Result := retire 2 8 (rotR8 .rr .c) s

/-- R280 `RR D`: 0xCB 0x1A. -/
def execRr_D (s : State) : Result := retire 2 8 (rotR8 .rr .d) s

/-- R280 `RR E`: 0xCB 0x1B. -/
def execRr_E (s : State) : Result := retire 2 8 (rotR8 .rr .e) s

/-- R280 `RR H`: 0xCB 0x1C. -/
def execRr_H (s : State) : Result := retire 2 8 (rotR8 .rr .h) s

/-- R280 `RR L`: 0xCB 0x1D. -/
def execRr_L (s : State) : Result := retire 2 8 (rotR8 .rr .l) s

/-- R281 `RR (HL)`: 0xCB 0x1E. -/
def execRr_atHL (s : State) : Result := retire 2 16 (rotR8 .rr .atHL) s

/-- R280 `RR A`: 0xCB 0x1F. -/
def execRr_A (s : State) : Result := retire 2 8 (rotR8 .rr .a) s

/-- R282 `SLA B`: 0xCB 0x20. -/
def execSla_B (s : State) : Result := retire 2 8 (rotR8 .sla .b) s

/-- R282 `SLA C`: 0xCB 0x21. -/
def execSla_C (s : State) : Result := retire 2 8 (rotR8 .sla .c) s

/-- R282 `SLA D`: 0xCB 0x22. -/
def execSla_D (s : State) : Result := retire 2 8 (rotR8 .sla .d) s

/-- R282 `SLA E`: 0xCB 0x23. -/
def execSla_E (s : State) : Result := retire 2 8 (rotR8 .sla .e) s

/-- R282 `SLA H`: 0xCB 0x24. -/
def execSla_H (s : State) : Result := retire 2 8 (rotR8 .sla .h) s

/-- R282 `SLA L`: 0xCB 0x25. -/
def execSla_L (s : State) : Result := retire 2 8 (rotR8 .sla .l) s

/-- R283 `SLA (HL)`: 0xCB 0x26. -/
def execSla_atHL (s : State) : Result := retire 2 16 (rotR8 .sla .atHL) s

/-- R282 `SLA A`: 0xCB 0x27. -/
def execSla_A (s : State) : Result := retire 2 8 (rotR8 .sla .a) s

/-- R284 `SRA B`: 0xCB 0x28. -/
def execSra_B (s : State) : Result := retire 2 8 (rotR8 .sra .b) s

/-- R284 `SRA C`: 0xCB 0x29. -/
def execSra_C (s : State) : Result := retire 2 8 (rotR8 .sra .c) s

/-- R284 `SRA D`: 0xCB 0x2A. -/
def execSra_D (s : State) : Result := retire 2 8 (rotR8 .sra .d) s

/-- R284 `SRA E`: 0xCB 0x2B. -/
def execSra_E (s : State) : Result := retire 2 8 (rotR8 .sra .e) s

/-- R284 `SRA H`: 0xCB 0x2C. -/
def execSra_H (s : State) : Result := retire 2 8 (rotR8 .sra .h) s

/-- R284 `SRA L`: 0xCB 0x2D. -/
def execSra_L (s : State) : Result := retire 2 8 (rotR8 .sra .l) s

/-- R285 `SRA (HL)`: 0xCB 0x2E. -/
def execSra_atHL (s : State) : Result := retire 2 16 (rotR8 .sra .atHL) s

/-- R284 `SRA A`: 0xCB 0x2F. -/
def execSra_A (s : State) : Result := retire 2 8 (rotR8 .sra .a) s

/-- R286 `SWAP B`: 0xCB 0x30. -/
def execSwap_B (s : State) : Result := retire 2 8 (rotR8 .swap .b) s

/-- R286 `SWAP C`: 0xCB 0x31. -/
def execSwap_C (s : State) : Result := retire 2 8 (rotR8 .swap .c) s

/-- R286 `SWAP D`: 0xCB 0x32. -/
def execSwap_D (s : State) : Result := retire 2 8 (rotR8 .swap .d) s

/-- R286 `SWAP E`: 0xCB 0x33. -/
def execSwap_E (s : State) : Result := retire 2 8 (rotR8 .swap .e) s

/-- R286 `SWAP H`: 0xCB 0x34. -/
def execSwap_H (s : State) : Result := retire 2 8 (rotR8 .swap .h) s

/-- R286 `SWAP L`: 0xCB 0x35. -/
def execSwap_L (s : State) : Result := retire 2 8 (rotR8 .swap .l) s

/-- R287 `SWAP (HL)`: 0xCB 0x36. -/
def execSwap_atHL (s : State) : Result := retire 2 16 (rotR8 .swap .atHL) s

/-- R286 `SWAP A`: 0xCB 0x37. -/
def execSwap_A (s : State) : Result := retire 2 8 (rotR8 .swap .a) s

/-- R288 `SRL B`: 0xCB 0x38. -/
def execSrl_B (s : State) : Result := retire 2 8 (rotR8 .srl .b) s

/-- R288 `SRL C`: 0xCB 0x39. -/
def execSrl_C (s : State) : Result := retire 2 8 (rotR8 .srl .c) s

/-- R288 `SRL D`: 0xCB 0x3A. -/
def execSrl_D (s : State) : Result := retire 2 8 (rotR8 .srl .d) s

/-- R288 `SRL E`: 0xCB 0x3B. -/
def execSrl_E (s : State) : Result := retire 2 8 (rotR8 .srl .e) s

/-- R288 `SRL H`: 0xCB 0x3C. -/
def execSrl_H (s : State) : Result := retire 2 8 (rotR8 .srl .h) s

/-- R288 `SRL L`: 0xCB 0x3D. -/
def execSrl_L (s : State) : Result := retire 2 8 (rotR8 .srl .l) s

/-- R289 `SRL (HL)`: 0xCB 0x3E. -/
def execSrl_atHL (s : State) : Result := retire 2 16 (rotR8 .srl .atHL) s

/-- R288 `SRL A`: 0xCB 0x3F. -/
def execSrl_A (s : State) : Result := retire 2 8 (rotR8 .srl .a) s

end Sys2Proof.Machine
end

