-- ==== Sys2Proof/Machine/Stack.lean ====
section
/-! DEFINITION. PUSH and POP (47_stack R391, R392). One meaning per row of the opcode table, each over the shared
effects of Operands.lean; the two numbers are the length in bytes and the cost in cycles (30_encoding R159, R161). -/

namespace Sys2Proof.Machine

/-- R392 `POP BC`: 0xC1. -/
def execPop_BC (s : State) : Result := retire 1 12 (popR16 .bc) s

/-- R391 `PUSH BC`: 0xC5. -/
def execPush_BC (s : State) : Result := retire 1 16 (pushR16 .bc) s

/-- R392 `POP DE`: 0xD1. -/
def execPop_DE (s : State) : Result := retire 1 12 (popR16 .de) s

/-- R391 `PUSH DE`: 0xD5. -/
def execPush_DE (s : State) : Result := retire 1 16 (pushR16 .de) s

/-- R392 `POP HL`: 0xE1. -/
def execPop_HL (s : State) : Result := retire 1 12 (popR16 .hl) s

/-- R391 `PUSH HL`: 0xE5. -/
def execPush_HL (s : State) : Result := retire 1 16 (pushR16 .hl) s

/-- R392 `POP AF`: 0xF1. -/
def execPop_AF (s : State) : Result := retire 1 12 (popR16 .af) s

/-- R391 `PUSH AF`: 0xF5. -/
def execPush_AF (s : State) : Result := retire 1 16 (pushR16 .af) s

end Sys2Proof.Machine
end

