-- ==== Sys2Proof/Machine/Ppu.lean ====
section
/-! DEFINITION. The PPU (60_exceptions R570 to R583): dot and line counting, LY, the vertical blank, STAT and its interrupt
line, and the drawing of a line from background, window and sprites. It reads cells directly, without bus side effects
(R570). -/

namespace Sys2Proof.Machine

/-- A bit of LCDC (10_state R75). -/
def lcdc (s : State) (b : Nat) : Bool := (s.cell addrLCDC).getLsbD b

/-! ## Tiles and palettes -/

/-- A palette lookup: field `ci` of the palette byte (60 R583). -/
def shadeOf (palette : Byte) (ci : Shade) : Shade := palette.extractLsb' (2 * ci.toNat) 2

/-- The colour index of row `r`, column `c` of the tile at address `t` (60 R577). -/
def tilePixel (s : State) (t r c : Nat) : Shade :=
  let lo := s.cell (t + 2 * r)
  let hi := s.cell (t + 2 * r + 1)
  BitVec.ofBool (hi.getLsbD (7 - c)) ++ BitVec.ofBool (lo.getLsbD (7 - c))

/-- The address of background or window tile `n`: unsigned from 0x8000, or signed from 0x9000 (60 R577). -/
def bgTileAddr (s : State) (n : Byte) : Nat :=
  if lcdc s 4 then 0x8000 + 16 * n.toNat else (0x9000 + 16 * n.toInt).toNat

/-- The colour index at `(py, px)` of the tile map at `base` (60 R578, R579). -/
def mapPixel (s : State) (base py px : Nat) : Shade :=
  let n := s.cell (base + 32 * (py / 8) + px / 8)
  tilePixel s (bgTileAddr s n) (py % 8) (px % 8)

/-! ## Background and window -/

/-- The window covers pixel `(L, x)` (60 R579). -/
def windowCovers (s : State) (L x : Nat) : Bool :=
  lcdc s 0 && lcdc s 5 && decide ((s.cell addrWY).toNat ≤ L) && decide ((s.cell addrWX).toNat ≤ x + 7)

/-- The background's or the window's colour index at `(L, x)` (60 R578, R579); 0 when LCDC bit 0 is clear. -/
def backgroundIndex (s : State) (L x : Nat) : Shade :=
  if lcdc s 0 = false then 0
  else if windowCovers s L x then
    mapPixel s (if lcdc s 6 then 0x9C00 else 0x9800) s.windowLine.toNat (x + 7 - (s.cell addrWX).toNat)
  else
    mapPixel s (if lcdc s 3 then 0x9C00 else 0x9800) ((L + (s.cell addrSCY).toNat) % 256)
      ((x + (s.cell addrSCX).toNat) % 256)

/-- The background's or the window's shade at a colour index (60 R578): shade 0, not BGP's, when LCDC bit 0 is clear. -/
def backgroundShade (s : State) (ci : Shade) : Shade :=
  if lcdc s 0 = false then 0 else shadeOf (s.cell addrBGP) ci

/-! ## Sprites -/

/-- An OAM entry (60 R580). -/
structure Sprite where
  y : Byte
  x : Byte
  tile : Byte
  attr : Byte
  deriving DecidableEq, Repr

/-- OAM entry `i`, four bytes at 0xFE00 + 4i (60 R580). -/
def oamEntry (s : State) (i : Nat) : Sprite :=
  { y := s.cell (0xFE00 + 4 * i), x := s.cell (0xFE00 + 4 * i + 1), tile := s.cell (0xFE00 + 4 * i + 2),
    attr := s.cell (0xFE00 + 4 * i + 3) }

/-- Sprite height: 16 when LCDC bit 2 is set, else 8 (60 R580). -/
def spriteHeight (s : State) : Nat := if lcdc s 2 then 16 else 8

/-- `Y - 16 ≤ L < Y - 16 + h` (60 R580). -/
def spriteOnLine (h L : Nat) (sp : Sprite) : Bool := decide (sp.y.toNat ≤ L + 16) && decide (L + 16 < sp.y.toNat + h)

/-- Insert a sprite in front of the first whose X is not smaller, so that equal X keeps OAM order. -/
def insertByX (sp : Sprite) : List Sprite → List Sprite
  | [] => [sp]
  | q :: rest => if sp.x.toNat ≤ q.x.toNat then sp :: q :: rest else q :: insertByX sp rest

/-- The sprites of line `L` in priority order: the first `MAX_SPRITES_PER_LINE` in OAM order, sorted by X, ties by OAM
index (60 R580). -/
def selectedSprites (s : State) (L : Nat) : List Sprite :=
  ((((List.range 40).map (oamEntry s)).filter (spriteOnLine (spriteHeight s) L)).take s.cfg.maxSprites).foldr
    insertByX []

/-- The sprite covers column `x`: `X - 8 ≤ x < X` (60 R581). -/
def spriteCovers (sp : Sprite) (x : Nat) : Bool := decide (sp.x.toNat ≤ x + 8) && decide (x < sp.x.toNat)

/-- The colour index of a sprite that covers pixel `(L, x)` (60 R581). -/
def spriteIndex (s : State) (sp : Sprite) (L x : Nat) : Shade :=
  let h := spriteHeight s
  let r0 := L + 16 - sp.y.toNat
  let r := if sp.attr.getLsbD 6 then h - 1 - r0 else r0
  let t := if h = 16 then (sp.tile &&& 0xFE) ||| (if 8 ≤ r then 1 else 0) else sp.tile
  let c0 := x + 8 - sp.x.toNat
  let c := if sp.attr.getLsbD 5 then 7 - c0 else c0
  tilePixel s (0x8000 + 16 * t.toNat) (r % 8) c

/-- The palette of a sprite (60 R581). -/
def spritePalette (s : State) (sp : Sprite) : Byte := if sp.attr.getLsbD 4 then s.cell addrOBP1 else s.cell addrOBP0

/-- The shade of pixel `(L, x)` over a background of index `bgci` and shade `bg`: the first sprite in priority order whose
index is not 0 decides (60 R582). -/
def compositePixel (s : State) (L x : Nat) (bgci bg : Shade) : List Sprite → Shade
  | [] => bg
  | sp :: rest =>
    let ci := spriteIndex s sp L x
    if spriteCovers sp x = true ∧ ci ≠ 0 then
      if s.cfg.objBgPriority = true ∧ sp.attr.getLsbD 7 = true ∧ bgci ≠ 0 then bg else shadeOf (spritePalette s sp) ci
    else compositePixel s L x bgci bg rest

/-! ## A line -/

/-- The shade of pixel `(L, x)`, given the line's sprites (60 R576). -/
def pixelShade (s : State) (L : Nat) (sprites : List Sprite) (x : Nat) : Shade :=
  let ci := backgroundIndex s L x
  compositePixel s L x ci (backgroundShade s ci) sprites

/-- The 160 shades of line `L`; all 0 with the LCD off (60 R573, R576). -/
def lineShades (s : State) (L : Nat) : List Shade :=
  if lcdc s 7 = false then blankLine
  else (List.range visibleWidth).map (pixelShade s L (if lcdc s 1 then selectedSprites s L else []))

/-- The window supplied some pixel of line `L` (60 R576). -/
def windowUsed (s : State) (L : Nat) : Bool := lcdc s 7 && (List.range visibleWidth).any (windowCovers s L)

/-- `render_line(L)` (60 R576). -/
def renderLine (L : Nat) (s : State) : State :=
  { s with
    framebuffer := s.framebuffer.setRow L (lineShades s L)
    windowLine := if windowUsed s L then s.windowLine + 1 else s.windowLine }

/-! ## Timing -/

/-- The PPU mode of a position (60 R574). -/
def ppuMode (line dot : Nat) : BitVec 2 :=
  if 144 ≤ line then 1 else if dot < 80 then 2 else if dot < 252 then 3 else 0

/-- The vertical blank: request bit 0, count and present the frame (60 R572). -/
def vblank (s : State) : State :=
  requestInterrupt 0 { s with frameCount := s.frameCount + 1, presented := s.framebuffer }

/-- What the PPU does at dot 0 of a line: LY, the window counter, the vertical blank (60 R571). -/
def lineStart (s : State) : State :=
  let s1 := s.setCell addrLY (BitVec.ofNat 8 s.line)
  let s2 := if s.line = 0 then { s1 with windowLine := 0 } else s1
  if s.line = 144 then vblank s2 else s2

/-- `update_stat()` (60 R575). -/
def updateStat (s : State) : State :=
  let mode := ppuMode s.line s.dot
  let coin := decide (s.line = (s.cell addrLYC).toNat)
  let stat : Byte := s.cell addrSTAT &&& 0xF8 ||| (BitVec.ofBool coin ++ mode).setWidth 8
  let sig := (stat.getLsbD 3 && mode == 0) || (stat.getLsbD 4 && mode == 1) || (stat.getLsbD 5 && mode == 2)
    || (stat.getLsbD 6 && coin)
  let s1 := s.setCell addrSTAT stat
  let s2 := if sig = true ∧ s.statLine = false then requestInterrupt 1 s1 else s1
  { s2 with statLine := sig }

/-- Move to the next dot (60 R571). -/
def nextDot (s : State) : State :=
  if s.dot + 1 = dotsPerLine then { s with dot := 0, line := (s.line + 1) % linesPerFrame } else { s with dot := s.dot + 1 }

/-- `ppu_dot()` (60 R571). -/
def ppuDot (s : State) : State :=
  let s1 := if s.dot = 0 then lineStart s else s
  let s2 := if s1.line < visibleLines ∧ s1.dot = s1.cfg.renderDot then renderLine s1.line s1 else s1
  nextDot (updateStat s2)

end Sys2Proof.Machine
end

