-- ==== Sys2Proof/Machine/Timer.lean ====
section
/-! DEFINITION. The divider and timer (60_exceptions R560 to R562; 10_state R71 to R73). -/

namespace Sys2Proof.Machine

/-- The bit of `div` whose falling edge clocks TIMA, from TAC bits 1 to 0 (60 R561). -/
def timerBit (tac : Byte) : Nat :=
  match tac.getLsbD 1, tac.getLsbD 0 with
  | false, false => 9
  | false, true => 3
  | true, false => 5
  | true, true => 7

/-- TIMA counts up; on overflow it reloads from TMA and requests the timer interrupt (60 R561, R562). -/
def timaTick (s : State) : State :=
  let tima := s.cell addrTIMA
  if tima = 0xFF then requestInterrupt 2 (s.setCell addrTIMA (s.cell addrTMA)) else s.setCell addrTIMA (tima + 1)

/-- `timer_cycle()`, once per cycle (60 R560, R561). -/
def timerCycle (s : State) : State :=
  let old := s.div
  let new := s.div + 1
  let s1 := { s with div := new }
  let tac := s.cell addrTAC
  let b := timerBit tac
  if tac.getLsbD 2 = true ∧ old.getLsbD b = true ∧ new.getLsbD b = false then timaTick s1 else s1

end Sys2Proof.Machine
end

