-- ==== Sys2Proof/Machine/Sequencing.lean ====
section
/-! DEFINITION. What a step does around an instruction (60_exceptions R500 to R503): fetch, the halted and stopped states, the
interrupt test, the EI delay and the device advance. `stepWith` takes the meanings as an argument; Step.lean gives it `exec`. -/

namespace Sys2Proof.Machine

/-- `advance(n)`: n cycles of the timer and the PPU, the timer first in each (60 R501). -/
def advance : Nat → State → State
  | 0, s => s
  | n + 1, s => advance n (ppuDot (timerCycle s))

/-- Where the bytes after the opcode are read: PC + 1, or PC itself when `halt_bug` is set (30_encoding R155, 60 R531). -/
def operandBase (s : State) : Word := if s.haltBug then s.pc else s.pc + 1

/-- Fetch and decode at PC, every byte through the bus (30_encoding R160). -/
def fetch (s : State) : Instr :=
  decode3 (readByte s s.pc) (readByte s (operandBase s)) (readByte s (operandBase s + 1))

/-- The EI delay's commit: IME becomes 1 when an EI was pending before the instruction and still is (60 R503). -/
def commitEi (armed : Bool) (s : State) : State :=
  if armed = true ∧ s.eiPending = true then { s with ime := true, eiPending := false } else s

/-- What follows an instruction's own effect in the step: after a decode fault nothing, else the EI commit and then the
devices for the cycles the instruction charged (60 R500, R540). `s` is the state before the instruction. -/
def finishStep (s t : State) : State :=
  if t.fault.isSome then t else advance (t.cycles - s.cycles) (commitEi s.eiPending t)

/-- A step of a CPU that is neither stuck, stopped nor waiting: dispatch an interrupt, or run one instruction (60 R500). -/
def runOne (meaning : Instr → State → Result) (s : State) : Result :=
  if s.ime = true ∧ pending s ≠ 0 then .next (advance 24 ((dispatchInterrupt s).charge 24))
  else
    match meaning (fetch s) s with
    | .next t => .next (finishStep s t)
    | .fault r => .fault r
    | .refused r => .refused r

/-- `step()` (60 R500). -/
def stepWith (meaning : Instr → State → Result) (s : State) : Result :=
  if s.fault.isSome then .next s
  else if s.stopped then .next (s.charge 4)
  else if s.halted = true ∧ pending s = 0 then .next (advance 4 (s.charge 4))
  else runOne meaning { s with halted := false }

end Sys2Proof.Machine
end

