-- ==== Sys2Proof/Machine/Step.lean ====
section
/-! DEFINITION. One step of the machine (60_exceptions R500), and the placing of an instruction where the next step fetches. -/

namespace Sys2Proof.Machine

/-- `step()` (60 R500): `stepWith` of Sequencing.lean over the meanings of `exec`. -/
def step (s : State) : Host.Outcome State Fault Refusal := stepWith exec s

/-- The state with a table word's instruction placed where `step` fetches next: its bytes, zero-padded to three, at PC,
PC + 1 and PC + 2 (log 2, log 7). `halt_bug` is cleared, since under it the opcode and its operands overlap. -/
def State.withFetchWord (s : State) (nbits w : Nat) : State :=
  let b := tableBytes nbits w
  pokeCode (s.pc + 2) b.2.2 (pokeCode (s.pc + 1) b.2.1 (pokeCode s.pc b.1 { s with haltBug := false }))

end Sys2Proof.Machine
end

