-- ==== Sys2Proof/Machine/Boot.lean ====
section
/-! DEFINITION. What happens between reset and the first step: the load of the images and the two boot paths (20_memory R104,
R111, R130; 70_reset R600 to R611). -/

namespace Sys2Proof.Machine

/-- Store a run of bytes in consecutive cells from `x` up. -/
def storeBytes : Nat → List Byte → Memory → Memory
  | _, [], m => m
  | x, v :: vs, m => storeBytes (x + 1) vs (m.write x v)

/-- An image is MBC1-class: longer than 0x147 bytes with type byte 1, 2 or 3 (20_memory R130). -/
def isMbc1 (image : List Byte) : Bool :=
  match image[0x147]? with
  | some t => t == 1 || t == 2 || t == 3
  | none => false

/-- Load a cartridge: the first 32 KiB to address 0, the whole image kept, `mbc1` fixed (20_memory R104, R130). -/
def loadRom (image : List Byte) (s : State) : State :=
  { s with mem := storeBytes 0 (image.take 0x8000) s.mem, rom := image, mbc1 := isMbc1 image }

/-- Give the boot-ROM image, if the host has one (20_memory R111). -/
def loadBootRom (image : Option (List Byte)) (s : State) : State := { s with bootRom := image }

/-- The control-register values of the post-boot table (70_reset R610). -/
def postBootCells : List (Nat × Byte) :=
  [(0xFF00, 0xCF), (0xFF01, 0x00), (0xFF02, 0x7E), (0xFF05, 0x00), (0xFF06, 0x00), (0xFF07, 0x00), (0xFF0F, 0xE1),
   (0xFF10, 0x80), (0xFF11, 0xBF), (0xFF12, 0xF3), (0xFF14, 0xBF), (0xFF16, 0x3F), (0xFF17, 0x00), (0xFF19, 0xBF),
   (0xFF1A, 0x7F), (0xFF1B, 0xFF), (0xFF1C, 0x9F), (0xFF1E, 0xBF), (0xFF20, 0xFF), (0xFF21, 0x00), (0xFF22, 0x00)] ++
  [(0xFF23, 0xBF), (0xFF24, 0x77), (0xFF25, 0xF3), (0xFF26, 0xF1), (0xFF40, 0x91), (0xFF41, 0x85), (0xFF42, 0x00),
   (0xFF43, 0x00), (0xFF44, 0x00), (0xFF45, 0x00), (0xFF47, 0xFC), (0xFF48, 0xFF), (0xFF49, 0xFF), (0xFF4A, 0x00),
   (0xFF4B, 0x00), (0xFF50, 0x01), (0xFFFF, 0x00)]

/-- The bootstrap-without-ROM path: registers, raw cell writes and the divider (70_reset R610, R611). -/
def postBoot (s : State) : State :=
  let s1 := postBootCells.foldl (fun t p => t.setCell p.1 p.2) s
  { s1 with
    a := 0x01, f := 0xB0, b := 0x00, c := 0x13, d := 0x00, e := 0xD8, h := 0x01, l := 0x4D,
    sp := 0xFFFE, pc := 0x0100, div := s.cfg.postBootDiv }

/-- Reset, load and boot: the state before the first step (70_reset R600 to R603, R610). With a boot image nothing more is
written after the load; without one the post-boot table is. -/
def State.boot (cfg : Config) (image : List Byte) (bootImage : Option (List Byte)) : State :=
  let s := loadBootRom bootImage (loadRom image (State.powerOn cfg))
  match bootImage with
  | some _ => s
  | none => postBoot s

end Sys2Proof.Machine
end

