-- ==== Sys2Proof/Machine/Joypad.lean ====
section
/-! DEFINITION. Button changes from the host (60_exceptions R551; 10_state R66). A read of the joypad register is
`joypadRead` in Ops.lean. -/

namespace Sys2Proof.Machine

/-- Whether a button is pressed (10_state R66). -/
def Buttons.get (k : Buttons) : Button → Bool
  | .up => k.up
  | .down => k.down
  | .left => k.left
  | .right => k.right
  | .a => k.a
  | .b => k.b
  | .select => k.select
  | .start => k.start

/-- Set one button; the other seven do not change (10_state R66). -/
def Buttons.put (k : Buttons) (b : Button) (p : Bool) : Buttons :=
  match b with
  | .up => { k with up := p }
  | .down => { k with down := p }
  | .left => { k with left := p }
  | .right => { k with right := p }
  | .a => { k with a := p }
  | .b => { k with b := p }
  | .select => { k with select := p }
  | .start => { k with start := p }

/-- The bit of JOYP that selects the button's group, 0 = selected: 4 for directions, 5 for actions (10_state R69). -/
def Button.groupBit : Button → Nat
  | .up | .down | .left | .right => 4
  | .a | .b | .select | .start => 5

/-- `joypad.set(button, pressed)`, between steps: a new press of a button in a selected group requests the joypad
interrupt, and any new press ends STOP (60 R551). -/
def joypadSet (b : Button) (pressed : Bool) (s : State) : State :=
  let newPress := pressed && !s.buttons.get b
  let s1 := { s with buttons := s.buttons.put b pressed }
  let s2 := if newPress = true ∧ (s.cell addrJOYP).getLsbD b.groupBit = false then requestInterrupt 4 s1 else s1
  if newPress then { s2 with stopped := false } else s2

end Sys2Proof.Machine
end

