-- ==== Sys2Proof/Machine/HostInterface.lean ====
section
/-! DEFINITION. The host interface (60_exceptions R504, R541, R590 to R596): the frame driver, the picture as RGBA, the register
snapshot, the counters. None of these is part of a step; they act between steps (R502). -/

namespace Sys2Proof.Machine

/-- A pixel as the host shows it (60 R590). -/
structure Rgba where
  r : Byte
  g : Byte
  b : Byte
  alpha : Byte
  deriving DecidableEq, Repr

/-- One RGB triple of `TONES` (00_scope R10). -/
structure Rgb where
  r : Byte
  g : Byte
  b : Byte
  deriving DecidableEq, Repr

/-- `TONES`: the shade-to-colour map, four RGB triples of the host's choice (00_scope R10, 92 D33). -/
structure Tones where
  tone0 : Rgb
  tone1 : Rgb
  tone2 : Rgb
  tone3 : Rgb
  deriving DecidableEq, Repr

/-- The tone of a shade, alpha 255 (60 R590). -/
def Tones.rgba (t : Tones) (sh : Shade) : Rgba :=
  let c := if sh = 0 then t.tone0 else if sh = 1 then t.tone1 else if sh = 2 then t.tone2 else t.tone3
  { r := c.r, g := c.g, b := c.b, alpha := 255 }

/-- The scale the document defaults to (00_scope R9). -/
def defaultScale : Nat := 4

/-- `lcdBuffer[y][x] = TONES[frame[y div scale][x div scale]]` (60 R590). -/
def lcdPixel (t : Tones) (scale : Nat) (fr : Frame) (y x : Nat) : Rgba := t.rgba (fr.pixel (y / scale) (x / scale))

/-- The `160·scale × 144·scale` buffer of a frame, line by line (60 R590). -/
def lcdBuffer (t : Tones) (scale : Nat) (fr : Frame) : List (List Rgba) :=
  (List.range (visibleLines * scale)).map fun y => (List.range (visibleWidth * scale)).map (lcdPixel t scale fr y)

/-- The register snapshot (60 R590). -/
structure Snapshot where
  a : Byte
  b : Byte
  c : Byte
  d : Byte
  e : Byte
  f : Byte
  h : Byte
  l : Byte
  af : Word
  bc : Word
  de : Word
  hl : Word
  sp : Word
  pc : Word
  zero : Bool
  subtraction : Bool
  halfCarry : Bool
  carry : Bool
  deriving DecidableEq, Repr

/-- Read the registers between steps (60 R590, R596). -/
def snapshot (s : State) : Snapshot :=
  { a := s.a, b := s.b, c := s.c, d := s.d, e := s.e, f := s.f, h := s.h, l := s.l, af := s.reg16 .af, bc := s.reg16 .bc,
    de := s.reg16 .de, hl := s.reg16 .hl, sp := s.sp, pc := s.pc, zero := s.flagZ, subtraction := s.flagN,
    halfCarry := s.flagH, carry := s.flagC }

/-- The frame driver around the machine: whether it is paused, and the faults it has logged (60 R504, R541; log 9). -/
structure FrameDriver where
  machine : State
  paused : Bool := false
  faultLog : List Fault := []
  deriving DecidableEq, Repr

/-- `pause()`: only the driver's flag (60 R592). With no running frame timer it is refused at the host and changes nothing
(R541); here pausing a paused driver changes nothing. -/
def FrameDriver.pause (d : FrameDriver) : FrameDriver := { d with paused := true }

/-- `resume()` (60 R592). -/
def FrameDriver.resume (d : FrameDriver) : FrameDriver := { d with paused := false }

/-- The frame loop: step until the budget is used or the driver is paused; a fault is logged and pauses (60 R504, R541).
`fuel` bounds the number of steps; `budget` steps are enough, since a step that does not fault charges at least 4.
DESIGN CHOICE (log 14): a step of a machine that is faulted already counts as the fault outcome too, so a resumed driver
logs the same fault again and pauses; the spec leaves this open. -/
def frameLoop (budget : Nat) : Nat → Nat → FrameDriver → FrameDriver
  | 0, _, d => d
  | fuel + 1, used, d =>
    if used < budget ∧ d.paused = false then
      match step d.machine with
      | .next t =>
        match t.fault with
        | some f => { machine := t, paused := true, faultLog := d.faultLog ++ [f] }
        | none => frameLoop budget fuel (used + (t.cycles - d.machine.cycles)) { d with machine := t }
      | .fault _ => d.pause
      | .refused _ => d.pause
    else d

/-- `floor(4194304 / TARGET_FPS)`, with `TARGET_FPS = num / den` (60 R504, R593). -/
def frameBudget (num den : Nat) : Nat := cyclesPerSecond * den / num

/-- `executeFrame()` (60 R504). -/
def executeFrame (num den : Nat) (d : FrameDriver) : FrameDriver := frameLoop (frameBudget num den) (frameBudget num den) 0 d

/-- The host's `reset()` with the images it holds: everything dropped, the parameters kept (60 R592, 70_reset R600 to R602). -/
def hostReset (image : List Byte) (bootImage : Option (List Byte)) (s : State) : State :=
  State.boot s.cfg image bootImage

end Sys2Proof.Machine
end

