-- ==== Sys2Proof/Safety.lean ====
section
/-! DEFINITION. What counts as a well-formed state and as a safe run. -/

namespace Sys2Proof.Machine

/-- The state invariant: F's low nibble is 0 (10_state R55), memory and frames are in canonical form, the PPU is at a dot
below 456 and a line below 154 (R67), the bank register is not 0 (20_memory R122), and `ei_pending` and `halt_bug` are set
only under their parameters (10_state R61). -/
structure State.Inv (s : State) : Prop where
  lowNibble : s.f &&& 0x0F = 0
  memory : s.mem.wf = true
  framebuffer : s.framebuffer.wf = true
  presented : s.presented.wf = true
  dot : s.dot < dotsPerLine
  line : s.line < linesPerFrame
  romBank : s.romBank ≠ 0
  eiPending : s.eiPending = true → s.cfg.eiDelay = true
  haltBug : s.haltBug = true → s.cfg.haltBug = true

/-- The machine is not stuck in the decode fault (60_exceptions R540). -/
def State.safe (s : State) : Prop := s.fault = none

/-- `t` is reached from `s` by some number of steps. -/
inductive Reaches (s : State) : State → Prop where
  | refl : Reaches s s
  | step {t u : State} (h : Reaches s t) (hs : step t = .next u) : Reaches s u

/-- A safe run from `s`: no state it reaches is stuck. -/
def SafeFrom (s : State) : Prop := ∀ t, Reaches s t → t.safe

end Sys2Proof.Machine
end

