-- ==== Sys2Proof/Certificates/Slice0/Obligations.lean ====
section
/-! DEFINITION. The statements of this slice. The helpers of `Sys2Proof.Claims` write the spec's formulas in plain arithmetic,
apart from the model's own; `readByte` and `writeByte` are the model's bus, itself the subject of BusRead and BusWrite. -/

namespace Sys2Proof.Claims

open Sys2Proof.Machine

/-! ## Numbers, registers, flags -/

/-- A number as a byte, modulo 256. -/
def byte (n : Nat) : Byte := BitVec.ofNat 8 n

/-- F from its flags: Z is bit 7, N bit 6, H bit 5, C bit 4, and bits 3 to 0 are 0 (10_state R55). -/
def flags (z n h c : Bool) : Byte :=
  (if z then 0x80 else 0) ||| (if n then 0x40 else 0) ||| (if h then 0x20 else 0) ||| (if c then 0x10 else 0)

/-- An 8-bit register operand: its r8 code (30_encoding R152), its slot read, its slot written. -/
structure Reg where
  code : Nat
  get : State → Byte
  put : Byte → State → State

def rB : Reg := ⟨0, State.b, fun v s => { s with b := v }⟩
def rC : Reg := ⟨1, State.c, fun v s => { s with c := v }⟩
def rD : Reg := ⟨2, State.d, fun v s => { s with d := v }⟩
def rE : Reg := ⟨3, State.e, fun v s => { s with e := v }⟩
def rH : Reg := ⟨4, State.h, fun v s => { s with h := v }⟩
def rL : Reg := ⟨5, State.l, fun v s => { s with l := v }⟩
def rA : Reg := ⟨7, State.a, fun v s => { s with a := v }⟩

/-- A 16-bit register operand: its p code (30_encoding R153), its value, its high and low slots written. -/
structure Pair where
  code : Nat
  get : State → Word
  put : Word → State → State

def pBC : Pair := ⟨0, fun s => s.b ++ s.c, fun v s => { s with b := hiByte v, c := loByte v }⟩
def pDE : Pair := ⟨1, fun s => s.d ++ s.e, fun v s => { s with d := hiByte v, e := loByte v }⟩
def pHL : Pair := ⟨2, fun s => s.h ++ s.l, fun v s => { s with h := hiByte v, l := loByte v }⟩
def pSP : Pair := ⟨3, State.sp, fun v s => { s with sp := v }⟩
def pAF : Pair := ⟨3, fun s => s.a ++ s.f, fun v s => { s with a := hiByte v, f := loByte v &&& 0xF0 }⟩

/-- The address in HL. -/
def hl (s : State) : Word := s.h ++ s.l

/-- The byte at HL. -/
def atHL (s : State) : Byte := readByte s (hl s)

/-! ## The frame of an instruction -/

/-- What an instruction of `len` bytes and `cost` cycles leaves when it has no other effect: PC past it (one byte less when
`halt_bug` is set, 60_exceptions R531, which is then clear), the cost charged, nothing else changed. -/
def after (len cost : Nat) (s : State) : State :=
  { s with
    pc := s.pc + BitVec.ofNat 16 (if s.haltBug then len - 1 else len)
    haltBug := false
    cycles := s.cycles + cost }

/-- A word pushed: SP down by two, the high byte at old SP - 1, then the low byte at old SP - 2. -/
def pushed (v : Word) (t : State) : State :=
  writeByte (t.sp - 2) (loByte v) (writeByte (t.sp - 1) (hiByte v) { t with sp := t.sp - 2 })

/-- The word at the top of the stack. -/
def top (s : State) : Word := readByte s (s.sp + 1) ++ readByte s s.sp

/-! ## 8-bit results (41_alu8) -/

/-- A plus `x` plus `c`, with Z, N = 0, H out of bit 3, C out of bit 7. -/
def sum (x : Byte) (c : Nat) (t : State) : State :=
  { t with
    a := byte (t.a.toNat + x.toNat + c)
    f := flags (decide ((t.a.toNat + x.toNat + c) % 256 = 0)) false (decide (15 < t.a.toNat % 16 + x.toNat % 16 + c))
      (decide (255 < t.a.toNat + x.toNat + c)) }

/-- The flags of A minus `x` minus `c`: Z, N = 1, H the borrow from bit 4, C the borrow. -/
def differenceFlags (x : Byte) (c : Nat) (t : State) : Byte :=
  flags (decide (t.a.toNat = (x.toNat + c) % 256)) true (decide (t.a.toNat % 16 < x.toNat % 16 + c))
    (decide (t.a.toNat < x.toNat + c))

/-- A minus `x` minus `c`. -/
def difference (x : Byte) (c : Nat) (t : State) : State :=
  { t with a := byte (t.a.toNat + 512 - x.toNat - c), f := differenceFlags x c t }

/-- A logic result in A, with Z from it, N = 0, C = 0 and H as given. -/
def logic (v : Byte) (half : Bool) (t : State) : State := { t with a := v, f := flags (decide (v = 0)) false half false }

/-- F after INC of `old`; C kept. -/
def incFlags (old : Byte) (s : State) : Byte := flags (decide (old = 0xFF)) false (decide (old.toNat % 16 = 15)) s.flagC

/-- F after DEC of `old`; C kept. -/
def decFlags (old : Byte) (s : State) : Byte := flags (decide (old = 1)) true (decide (old.toNat % 16 = 0)) s.flagC

/-- DAA: what is added after an addition or taken away after a subtraction (41_alu8 R230). -/
def daaHigh (s : State) : Bool := s.flagC || (!s.flagN && decide (0x99 < s.a.toNat))

/-- See `daaHigh`. -/
def daaLow (s : State) : Bool := s.flagH || (!s.flagN && decide (9 < s.a.toNat % 16))

/-- See `daaHigh`. -/
def daaCorrection (s : State) : Nat := (if daaHigh s then 0x60 else 0) + (if daaLow s then 0x06 else 0)

/-- See `daaHigh`. -/
def daaResult (s : State) : Byte :=
  if s.flagN then byte (s.a.toNat + 256 - daaCorrection s) else byte (s.a.toNat + daaCorrection s)

/-- A number below 100 in two decimal digits. -/
def bcd (n : Nat) : Byte := byte (n / 10 * 16 + n % 10)

/-! ## Rotates and shifts (43_rotate_shift R269): the result and the bit shifted out, from the value and the old C -/

def rlcOf (v : Byte) (_ : Bool) : Byte × Bool := (byte (2 * v.toNat + v.toNat / 128), decide (128 ≤ v.toNat))
def rrcOf (v : Byte) (_ : Bool) : Byte × Bool := (byte (v.toNat / 2 + 128 * (v.toNat % 2)), decide (v.toNat % 2 = 1))
def rlOf (v : Byte) (c : Bool) : Byte × Bool := (byte (2 * v.toNat + c.toNat), decide (128 ≤ v.toNat))
def rrOf (v : Byte) (c : Bool) : Byte × Bool := (byte (v.toNat / 2 + 128 * c.toNat), decide (v.toNat % 2 = 1))
def slaOf (v : Byte) (_ : Bool) : Byte × Bool := (byte (2 * v.toNat), decide (128 ≤ v.toNat))
def sraOf (v : Byte) (_ : Bool) : Byte × Bool := (byte (v.toNat / 2 + 128 * (v.toNat / 128)), decide (v.toNat % 2 = 1))
def swapOf (v : Byte) (_ : Bool) : Byte × Bool := (byte (v.toNat % 16 * 16 + v.toNat / 16), false)
def srlOf (v : Byte) (_ : Bool) : Byte × Bool := (byte (v.toNat / 2), decide (v.toNat % 2 = 1))

/-! ## The post-boot cells -/

/-- The control-register cells of the post-boot table (70_reset R610), in the order the spec lists them. -/
def postBootTable : List (Nat × Byte) :=
  [(0xFF00, 0xCF), (0xFF01, 0x00), (0xFF02, 0x7E), (0xFF05, 0x00), (0xFF06, 0x00), (0xFF07, 0x00), (0xFF0F, 0xE1),
   (0xFF10, 0x80), (0xFF11, 0xBF), (0xFF12, 0xF3), (0xFF14, 0xBF), (0xFF16, 0x3F), (0xFF17, 0x00)] ++
  [(0xFF19, 0xBF), (0xFF1A, 0x7F), (0xFF1B, 0xFF), (0xFF1C, 0x9F), (0xFF1E, 0xBF), (0xFF20, 0xFF), (0xFF21, 0x00),
   (0xFF22, 0x00), (0xFF23, 0xBF), (0xFF24, 0x77), (0xFF25, 0xF3), (0xFF26, 0xF1), (0xFF40, 0x91)] ++
  [(0xFF41, 0x85), (0xFF42, 0x00), (0xFF43, 0x00), (0xFF44, 0x00), (0xFF45, 0x00), (0xFF47, 0xFC), (0xFF48, 0xFF),
   (0xFF49, 0xFF), (0xFF4A, 0x00), (0xFF4B, 0x00), (0xFF50, 0x01), (0xFFFF, 0x00)]

/-! ## The instructions of each form, with what the encoding codes for them -/

/-- ADD A,r (41_alu8 R201). -/
def addForms : List (Instr × Reg) :=
  [(.add_A_B, rB), (.add_A_C, rC), (.add_A_D, rD), (.add_A_E, rE), (.add_A_H, rH), (.add_A_L, rL), (.add_A_A, rA)]

/-- ADC A,r (41_alu8 R204). -/
def adcForms : List (Instr × Reg) :=
  [(.adc_A_B, rB), (.adc_A_C, rC), (.adc_A_D, rD), (.adc_A_E, rE), (.adc_A_H, rH), (.adc_A_L, rL), (.adc_A_A, rA)]

/-- SUB r (41_alu8 R207). -/
def subForms : List (Instr × Reg) :=
  [(.sub_B, rB), (.sub_C, rC), (.sub_D, rD), (.sub_E, rE), (.sub_H, rH), (.sub_L, rL), (.sub_A, rA)]

/-- SBC A,r (41_alu8 R210). -/
def sbcForms : List (Instr × Reg) :=
  [(.sbc_A_B, rB), (.sbc_A_C, rC), (.sbc_A_D, rD), (.sbc_A_E, rE), (.sbc_A_H, rH), (.sbc_A_L, rL), (.sbc_A_A, rA)]

/-- AND r (41_alu8 R213). -/
def andForms : List (Instr × Reg) :=
  [(.and_B, rB), (.and_C, rC), (.and_D, rD), (.and_E, rE), (.and_H, rH), (.and_L, rL), (.and_A, rA)]

/-- XOR r (41_alu8 R216). -/
def xorForms : List (Instr × Reg) :=
  [(.xor_B, rB), (.xor_C, rC), (.xor_D, rD), (.xor_E, rE), (.xor_H, rH), (.xor_L, rL), (.xor_A, rA)]

/-- OR r (41_alu8 R219). -/
def orForms : List (Instr × Reg) :=
  [(.or_B, rB), (.or_C, rC), (.or_D, rD), (.or_E, rE), (.or_H, rH), (.or_L, rL), (.or_A, rA)]

/-- CP r (41_alu8 R222). -/
def cpForms : List (Instr × Reg) :=
  [(.cp_B, rB), (.cp_C, rC), (.cp_D, rD), (.cp_E, rE), (.cp_H, rH), (.cp_L, rL), (.cp_A, rA)]

/-- INC r (41_alu8 R225). -/
def incForms : List (Instr × Reg) :=
  [(.inc_B, rB), (.inc_C, rC), (.inc_D, rD), (.inc_E, rE), (.inc_H, rH), (.inc_L, rL), (.inc_A, rA)]

/-- DEC r (41_alu8 R227). -/
def decForms : List (Instr × Reg) :=
  [(.dec_B, rB), (.dec_C, rC), (.dec_D, rD), (.dec_E, rE), (.dec_H, rH), (.dec_L, rL), (.dec_A, rA)]

/-- ADD HL,rr (42_alu16 R250). -/
def addHLForms : List (Instr × Pair) :=
  [(.add_HL_BC, pBC), (.add_HL_DE, pDE), (.add_HL_HL, pHL), (.add_HL_SP, pSP)]

/-- INC rr (42_alu16 R251). -/
def incPairForms : List (Instr × Pair) :=
  [(.inc_BC, pBC), (.inc_DE, pDE), (.inc_HL, pHL), (.inc_SP, pSP)]

/-- DEC rr (42_alu16 R252). -/
def decPairForms : List (Instr × Pair) :=
  [(.dec_BC, pBC), (.dec_DE, pDE), (.dec_HL, pHL), (.dec_SP, pSP)]

/-- PUSH rr (47_stack R391). -/
def pushForms : List (Instr × Pair) :=
  [(.push_BC, pBC), (.push_DE, pDE), (.push_HL, pHL), (.push_AF, pAF)]

/-- POP rr but POP AF (47_stack R392). -/
def popForms : List (Instr × Pair) :=
  [(.pop_BC, pBC), (.pop_DE, pDE), (.pop_HL, pHL)]

/-- LD rr,d16 (46_loads R369). -/
def loadPairForms : List ((Word → Instr) × Pair) :=
  [(.ld_BC_d16, pBC), (.ld_DE_d16, pDE), (.ld_HL_d16, pHL), (.ld_SP_d16, pSP)]

/-- RLCA, RRCA, RLA, RRA with their y field (43_rotate_shift R270 to R273). -/
def rotateAForms : List (Instr × Nat × (Byte → Bool → Byte × Bool)) :=
  [(.rlca, 0, rlcOf), (.rrca, 1, rrcOf), (.rla, 2, rlOf), (.rra, 3, rrOf)]

/-- The prefixed rotates and shifts of a register with their y field (43_rotate_shift R274 to R288). -/
def rotateForms : List (Instr × Nat × (Byte → Bool → Byte × Bool) × Reg) :=
  [(.rlc_B, 0, rlcOf, rB), (.rlc_C, 0, rlcOf, rC), (.rlc_D, 0, rlcOf, rD), (.rlc_E, 0, rlcOf, rE),
   (.rlc_H, 0, rlcOf, rH), (.rlc_L, 0, rlcOf, rL), (.rlc_A, 0, rlcOf, rA),
   (.rrc_B, 1, rrcOf, rB), (.rrc_C, 1, rrcOf, rC), (.rrc_D, 1, rrcOf, rD), (.rrc_E, 1, rrcOf, rE),
   (.rrc_H, 1, rrcOf, rH), (.rrc_L, 1, rrcOf, rL), (.rrc_A, 1, rrcOf, rA),
   (.rl_B, 2, rlOf, rB), (.rl_C, 2, rlOf, rC), (.rl_D, 2, rlOf, rD), (.rl_E, 2, rlOf, rE), (.rl_H, 2, rlOf, rH),
   (.rl_L, 2, rlOf, rL), (.rl_A, 2, rlOf, rA),
   (.rr_B, 3, rrOf, rB), (.rr_C, 3, rrOf, rC), (.rr_D, 3, rrOf, rD), (.rr_E, 3, rrOf, rE), (.rr_H, 3, rrOf, rH),
   (.rr_L, 3, rrOf, rL), (.rr_A, 3, rrOf, rA),
   (.sla_B, 4, slaOf, rB), (.sla_C, 4, slaOf, rC), (.sla_D, 4, slaOf, rD), (.sla_E, 4, slaOf, rE),
   (.sla_H, 4, slaOf, rH), (.sla_L, 4, slaOf, rL), (.sla_A, 4, slaOf, rA),
   (.sra_B, 5, sraOf, rB), (.sra_C, 5, sraOf, rC), (.sra_D, 5, sraOf, rD), (.sra_E, 5, sraOf, rE),
   (.sra_H, 5, sraOf, rH), (.sra_L, 5, sraOf, rL), (.sra_A, 5, sraOf, rA),
   (.swap_B, 6, swapOf, rB), (.swap_C, 6, swapOf, rC), (.swap_D, 6, swapOf, rD), (.swap_E, 6, swapOf, rE),
   (.swap_H, 6, swapOf, rH), (.swap_L, 6, swapOf, rL), (.swap_A, 6, swapOf, rA),
   (.srl_B, 7, srlOf, rB), (.srl_C, 7, srlOf, rC), (.srl_D, 7, srlOf, rD), (.srl_E, 7, srlOf, rE),
   (.srl_H, 7, srlOf, rH), (.srl_L, 7, srlOf, rL), (.srl_A, 7, srlOf, rA)]

/-- The prefixed rotates and shifts of (HL) with their y field (43_rotate_shift R275 to R289). -/
def rotateMemForms : List (Instr × Nat × (Byte → Bool → Byte × Bool)) :=
  [(.rlc_atHL, 0, rlcOf), (.rrc_atHL, 1, rrcOf), (.rl_atHL, 2, rlOf), (.rr_atHL, 3, rrOf), (.sla_atHL, 4, slaOf),
   (.sra_atHL, 5, sraOf), (.swap_atHL, 6, swapOf), (.srl_atHL, 7, srlOf)]

/-- BIT b,r (44_bit_ops R300). -/
def bitForms : List (Instr × Nat × Reg) :=
  [(.bit_0_B, 0, rB), (.bit_0_C, 0, rC), (.bit_0_D, 0, rD), (.bit_0_E, 0, rE), (.bit_0_H, 0, rH),
   (.bit_0_L, 0, rL), (.bit_0_A, 0, rA),
   (.bit_1_B, 1, rB), (.bit_1_C, 1, rC), (.bit_1_D, 1, rD), (.bit_1_E, 1, rE), (.bit_1_H, 1, rH),
   (.bit_1_L, 1, rL), (.bit_1_A, 1, rA),
   (.bit_2_B, 2, rB), (.bit_2_C, 2, rC), (.bit_2_D, 2, rD), (.bit_2_E, 2, rE), (.bit_2_H, 2, rH),
   (.bit_2_L, 2, rL), (.bit_2_A, 2, rA),
   (.bit_3_B, 3, rB), (.bit_3_C, 3, rC), (.bit_3_D, 3, rD), (.bit_3_E, 3, rE), (.bit_3_H, 3, rH),
   (.bit_3_L, 3, rL), (.bit_3_A, 3, rA),
   (.bit_4_B, 4, rB), (.bit_4_C, 4, rC), (.bit_4_D, 4, rD), (.bit_4_E, 4, rE), (.bit_4_H, 4, rH),
   (.bit_4_L, 4, rL), (.bit_4_A, 4, rA),
   (.bit_5_B, 5, rB), (.bit_5_C, 5, rC), (.bit_5_D, 5, rD), (.bit_5_E, 5, rE), (.bit_5_H, 5, rH),
   (.bit_5_L, 5, rL), (.bit_5_A, 5, rA),
   (.bit_6_B, 6, rB), (.bit_6_C, 6, rC), (.bit_6_D, 6, rD), (.bit_6_E, 6, rE), (.bit_6_H, 6, rH),
   (.bit_6_L, 6, rL), (.bit_6_A, 6, rA),
   (.bit_7_B, 7, rB), (.bit_7_C, 7, rC), (.bit_7_D, 7, rD), (.bit_7_E, 7, rE), (.bit_7_H, 7, rH),
   (.bit_7_L, 7, rL), (.bit_7_A, 7, rA)]

/-- BIT b,(HL) (44_bit_ops R301). -/
def bitMemForms : List (Instr × Nat) :=
  [(.bit_0_atHL, 0), (.bit_1_atHL, 1), (.bit_2_atHL, 2), (.bit_3_atHL, 3), (.bit_4_atHL, 4), (.bit_5_atHL, 5),
   (.bit_6_atHL, 6), (.bit_7_atHL, 7)]

/-- RES b,r (44_bit_ops R302). -/
def resForms : List (Instr × Nat × Reg) :=
  [(.res_0_B, 0, rB), (.res_0_C, 0, rC), (.res_0_D, 0, rD), (.res_0_E, 0, rE), (.res_0_H, 0, rH),
   (.res_0_L, 0, rL), (.res_0_A, 0, rA),
   (.res_1_B, 1, rB), (.res_1_C, 1, rC), (.res_1_D, 1, rD), (.res_1_E, 1, rE), (.res_1_H, 1, rH),
   (.res_1_L, 1, rL), (.res_1_A, 1, rA),
   (.res_2_B, 2, rB), (.res_2_C, 2, rC), (.res_2_D, 2, rD), (.res_2_E, 2, rE), (.res_2_H, 2, rH),
   (.res_2_L, 2, rL), (.res_2_A, 2, rA),
   (.res_3_B, 3, rB), (.res_3_C, 3, rC), (.res_3_D, 3, rD), (.res_3_E, 3, rE), (.res_3_H, 3, rH),
   (.res_3_L, 3, rL), (.res_3_A, 3, rA),
   (.res_4_B, 4, rB), (.res_4_C, 4, rC), (.res_4_D, 4, rD), (.res_4_E, 4, rE), (.res_4_H, 4, rH),
   (.res_4_L, 4, rL), (.res_4_A, 4, rA),
   (.res_5_B, 5, rB), (.res_5_C, 5, rC), (.res_5_D, 5, rD), (.res_5_E, 5, rE), (.res_5_H, 5, rH),
   (.res_5_L, 5, rL), (.res_5_A, 5, rA),
   (.res_6_B, 6, rB), (.res_6_C, 6, rC), (.res_6_D, 6, rD), (.res_6_E, 6, rE), (.res_6_H, 6, rH),
   (.res_6_L, 6, rL), (.res_6_A, 6, rA),
   (.res_7_B, 7, rB), (.res_7_C, 7, rC), (.res_7_D, 7, rD), (.res_7_E, 7, rE), (.res_7_H, 7, rH),
   (.res_7_L, 7, rL), (.res_7_A, 7, rA)]

/-- RES b,(HL) (44_bit_ops R303). -/
def resMemForms : List (Instr × Nat) :=
  [(.res_0_atHL, 0), (.res_1_atHL, 1), (.res_2_atHL, 2), (.res_3_atHL, 3), (.res_4_atHL, 4), (.res_5_atHL, 5),
   (.res_6_atHL, 6), (.res_7_atHL, 7)]

/-- SET b,r (44_bit_ops R304). -/
def setForms : List (Instr × Nat × Reg) :=
  [(.set_0_B, 0, rB), (.set_0_C, 0, rC), (.set_0_D, 0, rD), (.set_0_E, 0, rE), (.set_0_H, 0, rH),
   (.set_0_L, 0, rL), (.set_0_A, 0, rA),
   (.set_1_B, 1, rB), (.set_1_C, 1, rC), (.set_1_D, 1, rD), (.set_1_E, 1, rE), (.set_1_H, 1, rH),
   (.set_1_L, 1, rL), (.set_1_A, 1, rA),
   (.set_2_B, 2, rB), (.set_2_C, 2, rC), (.set_2_D, 2, rD), (.set_2_E, 2, rE), (.set_2_H, 2, rH),
   (.set_2_L, 2, rL), (.set_2_A, 2, rA),
   (.set_3_B, 3, rB), (.set_3_C, 3, rC), (.set_3_D, 3, rD), (.set_3_E, 3, rE), (.set_3_H, 3, rH),
   (.set_3_L, 3, rL), (.set_3_A, 3, rA),
   (.set_4_B, 4, rB), (.set_4_C, 4, rC), (.set_4_D, 4, rD), (.set_4_E, 4, rE), (.set_4_H, 4, rH),
   (.set_4_L, 4, rL), (.set_4_A, 4, rA),
   (.set_5_B, 5, rB), (.set_5_C, 5, rC), (.set_5_D, 5, rD), (.set_5_E, 5, rE), (.set_5_H, 5, rH),
   (.set_5_L, 5, rL), (.set_5_A, 5, rA),
   (.set_6_B, 6, rB), (.set_6_C, 6, rC), (.set_6_D, 6, rD), (.set_6_E, 6, rE), (.set_6_H, 6, rH),
   (.set_6_L, 6, rL), (.set_6_A, 6, rA),
   (.set_7_B, 7, rB), (.set_7_C, 7, rC), (.set_7_D, 7, rD), (.set_7_E, 7, rE), (.set_7_H, 7, rH),
   (.set_7_L, 7, rL), (.set_7_A, 7, rA)]

/-- SET b,(HL) (44_bit_ops R305). -/
def setMemForms : List (Instr × Nat) :=
  [(.set_0_atHL, 0), (.set_1_atHL, 1), (.set_2_atHL, 2), (.set_3_atHL, 3), (.set_4_atHL, 4), (.set_5_atHL, 5),
   (.set_6_atHL, 6), (.set_7_atHL, 7)]

/-- JP cc,a16 with the condition code and the condition (45_control_transfer R320, R322). -/
def jpForms : List ((Word → Instr) × Nat × (State → Bool)) :=
  [(.jp_NZ_a16, 0, fun s => !s.flagZ), (.jp_Z_a16, 1, State.flagZ), (.jp_NC_a16, 2, fun s => !s.flagC),
   (.jp_C_a16, 3, State.flagC)]

/-- JR cc,e8 (45_control_transfer R325). -/
def jrForms : List ((Byte → Instr) × Nat × (State → Bool)) :=
  [(.jr_NZ_e8, 0, fun s => !s.flagZ), (.jr_Z_e8, 1, State.flagZ), (.jr_NC_e8, 2, fun s => !s.flagC),
   (.jr_C_e8, 3, State.flagC)]

/-- CALL cc,a16 (45_control_transfer R327). -/
def callForms : List ((Word → Instr) × Nat × (State → Bool)) :=
  [(.call_NZ_a16, 0, fun s => !s.flagZ), (.call_Z_a16, 1, State.flagZ), (.call_NC_a16, 2, fun s => !s.flagC),
   (.call_C_a16, 3, State.flagC)]

/-- RET cc (45_control_transfer R329). -/
def retForms : List (Instr × Nat × (State → Bool)) :=
  [(.ret_NZ, 0, fun s => !s.flagZ), (.ret_Z, 1, State.flagZ), (.ret_NC, 2, fun s => !s.flagC),
   (.ret_C, 3, State.flagC)]

/-- RST with its y field (45_control_transfer R340). -/
def rstForms : List (Instr × Nat) :=
  [(.rst_00H, 0), (.rst_08H, 1), (.rst_10H, 2), (.rst_18H, 3), (.rst_20H, 4), (.rst_28H, 5), (.rst_30H, 6),
   (.rst_38H, 7)]

/-- LD r,r' (46_loads R350). -/
def loadForms : List (Instr × Reg × Reg) :=
  [(.ld_B_B, rB, rB), (.ld_B_C, rB, rC), (.ld_B_D, rB, rD), (.ld_B_E, rB, rE), (.ld_B_H, rB, rH),
   (.ld_B_L, rB, rL), (.ld_B_A, rB, rA),
   (.ld_C_B, rC, rB), (.ld_C_C, rC, rC), (.ld_C_D, rC, rD), (.ld_C_E, rC, rE), (.ld_C_H, rC, rH),
   (.ld_C_L, rC, rL), (.ld_C_A, rC, rA),
   (.ld_D_B, rD, rB), (.ld_D_C, rD, rC), (.ld_D_D, rD, rD), (.ld_D_E, rD, rE), (.ld_D_H, rD, rH),
   (.ld_D_L, rD, rL), (.ld_D_A, rD, rA),
   (.ld_E_B, rE, rB), (.ld_E_C, rE, rC), (.ld_E_D, rE, rD), (.ld_E_E, rE, rE), (.ld_E_H, rE, rH),
   (.ld_E_L, rE, rL), (.ld_E_A, rE, rA),
   (.ld_H_B, rH, rB), (.ld_H_C, rH, rC), (.ld_H_D, rH, rD), (.ld_H_E, rH, rE), (.ld_H_H, rH, rH),
   (.ld_H_L, rH, rL), (.ld_H_A, rH, rA),
   (.ld_L_B, rL, rB), (.ld_L_C, rL, rC), (.ld_L_D, rL, rD), (.ld_L_E, rL, rE), (.ld_L_H, rL, rH),
   (.ld_L_L, rL, rL), (.ld_L_A, rL, rA),
   (.ld_A_B, rA, rB), (.ld_A_C, rA, rC), (.ld_A_D, rA, rD), (.ld_A_E, rA, rE), (.ld_A_H, rA, rH),
   (.ld_A_L, rA, rL), (.ld_A_A, rA, rA)]

/-- LD r,d8 (46_loads R351). -/
def loadImmForms : List ((Byte → Instr) × Reg) :=
  [(.ld_B_d8, rB), (.ld_C_d8, rC), (.ld_D_d8, rD), (.ld_E_d8, rE), (.ld_H_d8, rH), (.ld_L_d8, rL), (.ld_A_d8, rA)]

/-- LD r,(HL) (46_loads R352). -/
def loadMemForms : List (Instr × Reg) :=
  [(.ld_B_atHL, rB), (.ld_C_atHL, rC), (.ld_D_atHL, rD), (.ld_E_atHL, rE), (.ld_H_atHL, rH), (.ld_L_atHL, rL),
   (.ld_A_atHL, rA)]

/-- LD (HL),r (46_loads R353). -/
def storeMemForms : List (Instr × Reg) :=
  [(.ld_atHL_B, rB), (.ld_atHL_C, rC), (.ld_atHL_D, rD), (.ld_atHL_E, rE), (.ld_atHL_H, rH), (.ld_atHL_L, rL),
   (.ld_atHL_A, rA)]

/-- The eleven illegal bytes (30_encoding R162). -/
def illegalForms : List (Instr × Byte) :=
  [(.illegal_D3, 0xD3), (.illegal_DB, 0xDB), (.illegal_DD, 0xDD), (.illegal_E3, 0xE3), (.illegal_E4, 0xE4),
   (.illegal_EB, 0xEB), (.illegal_EC, 0xEC), (.illegal_ED, 0xED), (.illegal_F4, 0xF4), (.illegal_FC, 0xFC),
   (.illegal_FD, 0xFD)]

/-! ## Where an instruction stores -/

/-- The two stack bytes a push writes. -/
def stackSlots (s : State) : List Word := [s.sp - 1, s.sp - 2]

/-- The instructions without an immediate that store to the address in HL. -/
def storesAtHL : List Instr :=
  [.ld_atHLinc_A, .ld_atHLdec_A, .ld_atHL_B, .ld_atHL_C, .ld_atHL_D, .ld_atHL_E, .ld_atHL_H, .ld_atHL_L, .ld_atHL_A,
   .inc_atHL, .dec_atHL, .rlc_atHL, .rrc_atHL, .rl_atHL, .rr_atHL, .sla_atHL, .sra_atHL, .swap_atHL, .srl_atHL,
   .res_0_atHL, .res_1_atHL, .res_2_atHL, .res_3_atHL, .res_4_atHL, .res_5_atHL, .res_6_atHL, .res_7_atHL,
   .set_0_atHL, .set_1_atHL, .set_2_atHL, .set_3_atHL, .set_4_atHL, .set_5_atHL, .set_6_atHL, .set_7_atHL]

/-- The instructions without an immediate that push. -/
def pushes : List Instr :=
  [.push_BC, .push_DE, .push_HL, .push_AF, .rst_00H, .rst_08H, .rst_10H, .rst_18H, .rst_20H, .rst_28H, .rst_30H, .rst_38H]

/-- The addresses an instruction stores to, in the state it runs in. STOP, which resets the divider, stores to 0xFF04. -/
def storedTo (i : Instr) (s : State) : List Word :=
  if i ∈ storesAtHL then [hl s]
  else if i ∈ pushes then stackSlots s
  else
    match i with
    | .ld_atBC_A => [s.b ++ s.c]
    | .ld_atDE_A => [s.d ++ s.e]
    | .ld_atHL_d8 _ => [hl s]
    | .ld_atA16_SP x => [x, x + 1]
    | .ld_atA16_A x => [x]
    | .ldh_atA8_A n => [0xFF00 + n.setWidth 16]
    | .ld_atC_A => [0xFF00 + s.c.setWidth 16]
    | .call_a16 _ => stackSlots s
    | .call_NZ_a16 _ => if s.flagZ then [] else stackSlots s
    | .call_Z_a16 _ => if s.flagZ then stackSlots s else []
    | .call_NC_a16 _ => if s.flagC then [] else stackSlots s
    | .call_C_a16 _ => if s.flagC then stackSlots s else []
    | .stop _ => [0xFF04]
    | _ => []

/-- A store to `x` can change what a read of `y` gives: the byte itself; OAM for a store that starts a DMA; the boot area for
a store to 0xFF50 under a boot image; the banked window for an MBC1 bank select (20_memory R110, R120). -/
def reaches (s : State) (x y : Word) : Prop :=
  y = x ∨
  (x = 0xFF46 ∧ 0xFE00 ≤ y.toNat ∧ y.toNat ≤ 0xFE9F) ∨
  (x = 0xFF50 ∧ y.toNat < 0x100 ∧ s.bootRom ≠ none) ∨
  (s.mbc1 = true ∧ 0x2000 ≤ x.toNat ∧ x.toNat ≤ 0x3FFF ∧ 0x4000 ≤ y.toNat ∧ y.toNat ≤ 0x7FFF)

/-! ## Steps -/

/-- The step runs an instruction: no fault, not stopped, not waiting, no interrupt to take. -/
def runs (s : State) : Prop :=
  s.fault = none ∧ s.stopped = false ∧ (s.halted = true → pending s ≠ 0) ∧ (s.ime = true → pending s = 0)

/-- The opcode and the two bytes read after it: from PC + 1, or from PC itself when `halt_bug` is set (60 R531). -/
def fetched (s : State) : List Byte :=
  let p := if s.haltBug then s.pc else s.pc + 1
  [readByte s s.pc, readByte s p, readByte s (p + 1)]

/-- The eleven bytes that spell no instruction (30_encoding R162). -/
def illegalBytes : List Byte := [0xD3, 0xDB, 0xDD, 0xE3, 0xE4, 0xEB, 0xEC, 0xED, 0xF4, 0xFC, 0xFD]

/-! ## The PPU -/

/-- A position in dots from the start of the frame. -/
def position (s : State) : Nat := s.line * 456 + s.dot

/-- The PPU mode (60 R574). -/
def modeAt (line dot : Nat) : Nat := if 144 ≤ line then 1 else if dot < 80 then 2 else if dot < 252 then 3 else 0

/-- The STAT interrupt line (60 R575), from the select bits of STAT. -/
def statSignal (s : State) : Bool :=
  let st := s.cell 0xFF41
  (st.getLsbD 3 && decide (modeAt s.line s.dot = 0)) || (st.getLsbD 4 && decide (modeAt s.line s.dot = 1)) ||
    (st.getLsbD 5 && decide (modeAt s.line s.dot = 2)) || (st.getLsbD 6 && decide (s.line = (s.cell 0xFF45).toNat))

/-- A bit of a cell as a number. -/
def bitAt (s : State) (x b : Nat) : Nat := ((s.cell x).getLsbD b).toNat

/-- The colour index of row `r`, column `c` of the tile at `tile`, its low plane in the first byte of the row (60 R577). -/
def tileColour (s : State) (tile r c : Nat) : Nat :=
  2 * bitAt s (tile + 2 * r + 1) (7 - c) + bitAt s (tile + 2 * r) (7 - c)

/-- The colour index at `(py, px)` of the tile map at `base`, in addresses (60 R577, R578). -/
def mapColour (s : State) (base py px : Nat) : Nat :=
  let n := (s.cell (base + 32 * (py / 8) + px / 8)).toNat
  tileColour s (if bitAt s 0xFF40 4 = 0 ∧ n < 128 then 0x9000 + 16 * n else 0x8000 + 16 * n) (py % 8) (px % 8)

/-- The window supplies pixel `(L, x)` (60 R579): the background bit, the window bit, WY and WX. -/
abbrev windowAt (s : State) (L x : Nat) : Prop :=
  bitAt s 0xFF40 0 = 1 ∧ bitAt s 0xFF40 5 = 1 ∧ (s.cell 0xFF4A).toNat ≤ L ∧ (s.cell 0xFF4B).toNat ≤ x + 7

/-- The window's own line as a line is drawn: 0 at the first dot of a frame (60 R571), else `window_line`. -/
def windowRow (s : State) : Nat := if s.line = 0 ∧ s.dot = 0 then 0 else s.windowLine.toNat

/-- The colour index of the background or the window at `(L, x)` (60 R578, R579): 0 with LCDC bit 0 clear. -/
def layerColour (s : State) (L x : Nat) : Nat :=
  if bitAt s 0xFF40 0 = 0 then 0
  else if windowAt s L x then
    mapColour s (if bitAt s 0xFF40 6 = 1 then 0x9C00 else 0x9800) (windowRow s) (x + 7 - (s.cell 0xFF4B).toNat)
  else
    mapColour s (if bitAt s 0xFF40 3 = 1 then 0x9C00 else 0x9800) ((L + (s.cell 0xFF42).toNat) % 256)
      ((x + (s.cell 0xFF43).toNat) % 256)

/-- The shade of the background or the window at `(L, x)` (60 R573, R578, R583): 0 with the LCD or LCDC bit 0 off. -/
def layerShade (s : State) (L x : Nat) : Nat :=
  if bitAt s 0xFF40 7 = 0 ∨ bitAt s 0xFF40 0 = 0 then 0 else (s.cell 0xFF47).toNat / 4 ^ layerColour s L x % 4

/-- The window supplies some pixel of line `L`: an `x` below 160 has `x ≥ WX - 7` (60 R576, R579). -/
abbrev windowShown (s : State) (L : Nat) : Prop :=
  bitAt s 0xFF40 7 = 1 ∧ bitAt s 0xFF40 0 = 1 ∧ bitAt s 0xFF40 5 = 1 ∧ (s.cell 0xFF4A).toNat ≤ L ∧ (s.cell 0xFF4B).toNat ≤ 166

/-- The OAM indices selected for line `L`: the first `MAX_SPRITES_PER_LINE` whose rows cover it (60 R580). -/
def selectedIndices (s : State) (L : Nat) : List Nat :=
  ((List.range 40).filter fun i =>
    decide ((s.cell (0xFE00 + 4 * i)).toNat ≤ L + 16 ∧
      L + 16 < (s.cell (0xFE00 + 4 * i)).toNat + (if bitAt s 0xFF40 2 = 1 then 16 else 8))).take s.cfg.maxSprites

/-- The colour index of a sprite at `(L, x)` (60 R581): its row and column from Y - 16 and X - 8, both flips, the tile of an
8 by 16 pair chosen by the row, in the tile data at 0x8000. -/
def spriteColour (s : State) (sp : Sprite) (L x : Nat) : Nat :=
  let h := if bitAt s 0xFF40 2 = 1 then 16 else 8
  let r := if sp.attr.getLsbD 6 then h - 1 - (L + 16 - sp.y.toNat) else L + 16 - sp.y.toNat
  let t := if h = 16 then sp.tile.toNat / 2 * 2 + (if 8 ≤ r then 1 else 0) else sp.tile.toNat
  let c := if sp.attr.getLsbD 5 then 7 - (x + 8 - sp.x.toNat) else x + 8 - sp.x.toNat
  tileColour s (0x8000 + 16 * t) (r % 8) c

/-- The shade of a sprite at `(L, x)`: its palette's field of its colour index (60 R581, R583). -/
def spriteShade (s : State) (sp : Sprite) (L x : Nat) : Nat :=
  (s.cell (if sp.attr.getLsbD 4 then 0xFF49 else 0xFF48)).toNat / 4 ^ spriteColour s sp L x % 4

/-- A sprite decides the pixel: it covers column `x` and its colour index there is not 0 (60 R581, R582). -/
def decides (s : State) (L x : Nat) (sp : Sprite) : Prop :=
  (sp.x.toNat ≤ x + 8 ∧ x < sp.x.toNat) ∧ spriteColour s sp L x ≠ 0

/-! ## Reset -/

/-- What every path to the first step leaves at its reset value (70_reset R600, R611): the CPU's control state, the bank
register, the buttons, the PPU with a blank frame. -/
def restAtReset (s : State) : Prop :=
  (s.ime = false ∧ s.halted = false ∧ s.stopped = false ∧ s.eiPending = false ∧ s.haltBug = false ∧ s.fault = none) ∧
  s.romBank = 1 ∧ (∀ k : Button, s.buttons.get k = false) ∧
  (s.line = 0 ∧ s.dot = 0 ∧ s.windowLine = 0 ∧ s.statLine = false ∧ s.frameCount = 0) ∧ ∀ y x, s.framebuffer.pixel y x = 0

/-! ## The joypad -/

/-- The direction button on line `k` (60 R550). -/
def direction (s : State) (k : Nat) : Bool :=
  match k with
  | 0 => s.buttons.right
  | 1 => s.buttons.left
  | 2 => s.buttons.up
  | 3 => s.buttons.down
  | _ => false

/-- The action button on line `k` (60 R550). -/
def action (s : State) (k : Nat) : Bool :=
  match k with
  | 0 => s.buttons.a
  | 1 => s.buttons.b
  | 2 => s.buttons.select
  | 3 => s.buttons.start
  | _ => false

/-- The buttons of the direction group (10_state R69). -/
def isDirection : Button → Bool
  | .up | .down | .left | .right => true
  | .a | .b | .select | .start => false

end Sys2Proof.Claims

open Sys2Proof Sys2Proof.Machine Sys2Proof.Claims

/-- Registers: what reading and writing each of the fourteen names does (R51, R52, R53). -/
def Obligations.RegisterFileAccess : Prop :=
  (∀ s : State, s.reg8 .a = s.a ∧ s.reg8 .f = s.f ∧ s.reg8 .b = s.b ∧ s.reg8 .c = s.c ∧ s.reg8 .d = s.d ∧ s.reg8 .e = s.e ∧
    s.reg8 .h = s.h ∧ s.reg8 .l = s.l) ∧
  (∀ (s : State) (r q : Reg8) (v : Byte),
    (s.setReg8 r v).reg8 q = (if q = r then (if r = .f then v &&& 0xF0 else v) else s.reg8 q) ∧
    (s.setReg8 r v).sp = s.sp ∧ (s.setReg8 r v).pc = s.pc) ∧
  (∀ s : State, (s.reg16 .af).toNat = s.a.toNat * 256 + s.f.toNat ∧ (s.reg16 .bc).toNat = s.b.toNat * 256 + s.c.toNat ∧
    (s.reg16 .de).toNat = s.d.toNat * 256 + s.e.toNat ∧ (s.reg16 .hl).toNat = s.h.toNat * 256 + s.l.toNat ∧
    s.reg16 .sp = s.sp ∧ s.reg16 .pc = s.pc) ∧
  (∀ (s : State) (v : Word),
    s.setReg16 .af v = { s with a := byte (v.toNat / 256), f := byte (v.toNat % 256) &&& 0xF0 } ∧
    s.setReg16 .bc v = { s with b := byte (v.toNat / 256), c := byte (v.toNat % 256) } ∧
    s.setReg16 .de v = { s with d := byte (v.toNat / 256), e := byte (v.toNat % 256) } ∧
    s.setReg16 .hl v = { s with h := byte (v.toNat / 256), l := byte (v.toNat % 256) } ∧
    s.setReg16 .sp v = { s with sp := v } ∧ s.setReg16 .pc v = { s with pc := v })

/-- Flags: where each flag stands in F, and that writing one leaves the rest (R55, R56). -/
def Obligations.FlagBitsAccess : Prop :=
  (∀ s : State, s.getFlag .zero = s.f.getLsbD 7 ∧ s.getFlag .subtraction = s.f.getLsbD 6 ∧
    s.getFlag .halfCarry = s.f.getLsbD 5 ∧ s.getFlag .carry = s.f.getLsbD 4) ∧
  (∀ (s : State) (fl g : Flag) (v : Bool), (s.setFlag fl v).getFlag g = (if g = fl then v else s.getFlag g) ∧
    s.setFlag fl v = { s with f := (s.setFlag fl v).f } ∧ (s.setFlag fl v).f &&& 0x0F = 0)

/-- Reset: every piece of state the spec gives a value for holds it (R86). -/
def Obligations.ResetValues : Prop :=
  let s := State.reset
  (s.a = 0 ∧ s.f = 0 ∧ s.b = 0 ∧ s.c = 0 ∧ s.d = 0 ∧ s.e = 0 ∧ s.h = 0 ∧ s.l = 0 ∧ s.sp = 0 ∧ s.pc = 0) ∧
  (∀ x, s.cell x = 0) ∧
  (s.ime = false ∧ s.halted = false ∧ s.stopped = false ∧ s.eiPending = false ∧ s.haltBug = false ∧ s.fault = none) ∧
  (s.div = 0 ∧ s.romBank = 1) ∧
  (∀ k : Button, s.buttons.get k = false) ∧
  (s.dot = 0 ∧ s.line = 0 ∧ s.windowLine = 0 ∧ s.statLine = false ∧ s.frameCount = 0) ∧
  (∀ y x, s.framebuffer.pixel y x = 0)

/-- The state before the first step, with and without a boot-ROM image (R603, R610, R611). -/
def Obligations.BootPaths : Prop :=
  ∀ (cfg : Config) (image : List Byte),
    (let s := State.boot cfg image none
     (s.a = 0x01 ∧ s.f = 0xB0 ∧ s.b = 0x00 ∧ s.c = 0x13 ∧ s.d = 0x00 ∧ s.e = 0xD8 ∧ s.h = 0x01 ∧ s.l = 0x4D ∧
       s.sp = 0xFFFE ∧ s.pc = 0x0100 ∧ s.div = cfg.postBootDiv) ∧
     restAtReset s ∧ s.bootRom = none ∧ s.rom = image ∧ s.cfg = cfg ∧
     (s.mbc1 = true ↔ 0x148 ≤ image.length ∧ image.getD 0x147 0 ∈ [1, 2, 3]) ∧
     (ppuDot s).cell 0xFF41 = 0x86 ∧
     (∀ p ∈ postBootTable, s.cell p.1 = p.2) ∧
     (∀ x, 0x8000 ≤ x → (∀ p ∈ postBootTable, p.1 ≠ x) → s.cell x = 0) ∧
     (∀ x, x < 0x8000 → s.cell x = image.getD x 0)) ∧
    (∀ boot : List Byte,
     let s := State.boot cfg image (some boot)
     (s.a = 0 ∧ s.f = 0 ∧ s.b = 0 ∧ s.c = 0 ∧ s.d = 0 ∧ s.e = 0 ∧ s.h = 0 ∧ s.l = 0 ∧ s.sp = 0 ∧ s.pc = 0 ∧ s.div = 0) ∧
     restAtReset s ∧ s.bootRom = some boot ∧ s.rom = image ∧ s.cfg = cfg ∧
     (s.mbc1 = true ↔ 0x148 ≤ image.length ∧ image.getD 0x147 0 ∈ [1, 2, 3]) ∧
     s.cell 0xFF50 = 0 ∧ readByte s s.pc = boot.getD 0 0 ∧
     (∀ x, s.cell x = if x < 0x8000 then image.getD x 0 else 0))

/-- ADD and ADC: A, the four flags, PC and the cost, and nothing else, for every operand form (R201, R202, R203, R204,
R205, R206). -/
def Obligations.AddAndAddWithCarry : Prop :=
  ∀ s : State,
    (∀ p ∈ addForms, encode p.1 = [byte (0x80 + p.2.code)] ∧ exec p.1 s = .next (sum (p.2.get s) 0 (after 1 4 s))) ∧
    (encode .add_A_atHL = [0x86] ∧ exec .add_A_atHL s = .next (sum (atHL s) 0 (after 1 8 s))) ∧
    (∀ n : Byte, encode (.add_A_d8 n) = [0xC6, n] ∧ exec (.add_A_d8 n) s = .next (sum n 0 (after 2 8 s))) ∧
    (∀ p ∈ adcForms, encode p.1 = [byte (0x88 + p.2.code)] ∧ exec p.1 s = .next (sum (p.2.get s) s.flagC.toNat (after 1 4 s))) ∧
    (encode .adc_A_atHL = [0x8E] ∧ exec .adc_A_atHL s = .next (sum (atHL s) s.flagC.toNat (after 1 8 s))) ∧
    (∀ n : Byte, encode (.adc_A_d8 n) = [0xCE, n] ∧ exec (.adc_A_d8 n) s = .next (sum n s.flagC.toNat (after 2 8 s)))

/-- SUB and SBC: A, the four flags, PC and the cost, and nothing else, for every operand form (R207, R208, R209, R210,
R211, R212). -/
def Obligations.SubtractAndSubtractWithCarry : Prop :=
  ∀ s : State,
    (∀ p ∈ subForms, encode p.1 = [byte (0x90 + p.2.code)] ∧ exec p.1 s = .next (difference (p.2.get s) 0 (after 1 4 s))) ∧
    (encode .sub_atHL = [0x96] ∧ exec .sub_atHL s = .next (difference (atHL s) 0 (after 1 8 s))) ∧
    (∀ n : Byte, encode (.sub_d8 n) = [0xD6, n] ∧ exec (.sub_d8 n) s = .next (difference n 0 (after 2 8 s))) ∧
    (∀ p ∈ sbcForms, encode p.1 = [byte (0x98 + p.2.code)] ∧ exec p.1 s = .next (difference (p.2.get s) s.flagC.toNat (after 1 4 s))) ∧
    (encode .sbc_A_atHL = [0x9E] ∧ exec .sbc_A_atHL s = .next (difference (atHL s) s.flagC.toNat (after 1 8 s))) ∧
    (∀ n : Byte, encode (.sbc_A_d8 n) = [0xDE, n] ∧ exec (.sbc_A_d8 n) s = .next (difference n s.flagC.toNat (after 2 8 s)))

/-- AND, XOR and OR: A, the flags, PC and the cost, and nothing else, for every operand form (R213, R214, R215, R216,
R217, R218, R219, R220, R221). -/
def Obligations.LogicOperations : Prop :=
  ∀ s : State,
    (∀ p ∈ andForms, encode p.1 = [byte (0xA0 + p.2.code)] ∧ exec p.1 s = .next (logic (s.a &&& (p.2.get s)) true (after 1 4 s))) ∧
    (encode .and_atHL = [0xA6] ∧ exec .and_atHL s = .next (logic (s.a &&& (atHL s)) true (after 1 8 s))) ∧
    (∀ n : Byte, encode (.and_d8 n) = [0xE6, n] ∧ exec (.and_d8 n) s = .next (logic (s.a &&& n) true (after 2 8 s))) ∧
    (∀ p ∈ xorForms, encode p.1 = [byte (0xA8 + p.2.code)] ∧ exec p.1 s = .next (logic (s.a ^^^ (p.2.get s)) false (after 1 4 s))) ∧
    (encode .xor_atHL = [0xAE] ∧ exec .xor_atHL s = .next (logic (s.a ^^^ (atHL s)) false (after 1 8 s))) ∧
    (∀ n : Byte, encode (.xor_d8 n) = [0xEE, n] ∧ exec (.xor_d8 n) s = .next (logic (s.a ^^^ n) false (after 2 8 s))) ∧
    (∀ p ∈ orForms, encode p.1 = [byte (0xB0 + p.2.code)] ∧ exec p.1 s = .next (logic (s.a ||| (p.2.get s)) false (after 1 4 s))) ∧
    (encode .or_atHL = [0xB6] ∧ exec .or_atHL s = .next (logic (s.a ||| (atHL s)) false (after 1 8 s))) ∧
    (∀ n : Byte, encode (.or_d8 n) = [0xF6, n] ∧ exec (.or_d8 n) s = .next (logic (s.a ||| n) false (after 2 8 s)))

/-- CP: the four flags, PC and the cost, A and everything else unchanged, for every operand form (R222, R223, R224).
-/
def Obligations.Compare : Prop :=
  ∀ s : State,
    (∀ p ∈ cpForms, encode p.1 = [byte (0xB8 + p.2.code)] ∧ exec p.1 s = .next ({ after 1 4 s with f := differenceFlags (p.2.get s) 0 s })) ∧
    (encode .cp_atHL = [0xBE] ∧ exec .cp_atHL s = .next ({ after 1 8 s with f := differenceFlags (atHL s) 0 s })) ∧
    (∀ n : Byte, encode (.cp_d8 n) = [0xFE, n] ∧ exec (.cp_d8 n) s = .next ({ after 2 8 s with f := differenceFlags n 0 s }))

/-- INC and DEC of a register and of (HL): the result, Z, N and H, C kept, and nothing else (R225, R226, R227, R228).
-/
def Obligations.IncrementAndDecrementByte : Prop :=
  ∀ s : State,
    (∀ p ∈ incForms, encode p.1 = [byte (0x04 + 8 * p.2.code)] ∧ exec p.1 s = .next ({ p.2.put (p.2.get s + 1) (after 1 4 s) with f := incFlags (p.2.get s) s })) ∧
    (encode .inc_atHL = [0x34] ∧
      exec .inc_atHL s = .next { writeByte (hl s) (atHL s + 1) (after 1 12 s) with f := incFlags (atHL s) s }) ∧
    (∀ p ∈ decForms, encode p.1 = [byte (0x05 + 8 * p.2.code)] ∧ exec p.1 s = .next ({ p.2.put (p.2.get s - 1) (after 1 4 s) with f := decFlags (p.2.get s) s })) ∧
    (encode .dec_atHL = [0x35] ∧
      exec .dec_atHL s = .next { writeByte (hl s) (atHL s - 1) (after 1 12 s) with f := decFlags (atHL s) s })

/-- CPL and DAA: A, the flags, PC and the cost, and nothing else (R229, R230). -/
def Obligations.ComplementAndDecimalAdjust : Prop :=
  ∀ s : State,
    (encode .cpl = [0x2F] ∧ exec .cpl s = .next { after 1 4 s with a := ~~~s.a, f := flags s.flagZ true true s.flagC }) ∧
    (encode .daa = [0x27] ∧ exec .daa s = .next
      { after 1 4 s with a := daaResult s, f := flags (decide (daaResult s = 0)) s.flagN false (daaHigh s) })

/-- DAA after ADC or SBC of two-digit BCD numbers gives the BCD sum or difference (41_alu8 R230, 41_alu8 R206, 41_alu8
R212). -/
def Obligations.DecimalAdjustCorrectsBcd : Prop :=
  ∀ (s : State) (m n : Nat), m < 100 → n < 100 → s.a = bcd m →
    (∃ t u, exec (.adc_A_d8 (bcd n)) s = .next t ∧ exec .daa t = .next u ∧
      u.a = bcd ((m + n + s.flagC.toNat) % 100) ∧ u.flagC = decide (100 ≤ m + n + s.flagC.toNat)) ∧
    (∃ t u, exec (.sbc_A_d8 (bcd n)) s = .next t ∧ exec .daa t = .next u ∧
      u.a = bcd ((m + 200 - n - s.flagC.toNat) % 100) ∧ u.flagC = decide (m < n + s.flagC.toNat))

/-- ADD HL,rr: HL, N, H from bit 11, C from bit 15, Z kept, and nothing else (R250). -/
def Obligations.AddToHL : Prop :=
  ∀ s : State,
    (∀ p ∈ addHLForms, encode p.1 = [byte (0x09 + 16 * p.2.code)] ∧ exec p.1 s = .next (
        { pHL.put (hl s + p.2.get s) (after 1 8 s) with
          f := flags s.flagZ false (decide (0xFFF < (hl s).toNat % 0x1000 + (p.2.get s).toNat % 0x1000))
            (decide (0xFFFF < (hl s).toNat + (p.2.get s).toNat)) }))

/-- INC rr and DEC rr: the pair wraps and no flag is written (R251, R252). -/
def Obligations.IncrementAndDecrementPair : Prop :=
  ∀ s : State,
    (∀ p ∈ incPairForms, encode p.1 = [byte (0x03 + 16 * p.2.code)] ∧ exec p.1 s = .next (p.2.put (p.2.get s + 1) (after 1 8 s))) ∧
    (∀ p ∈ decPairForms, encode p.1 = [byte (0x0B + 16 * p.2.code)] ∧ exec p.1 s = .next (p.2.put (p.2.get s - 1) (after 1 8 s)))

/-- ADD SP,e8 and LD HL,SP+e8: the signed sum, and the flags of the unsigned low-byte sum (R253, R254). -/
def Obligations.StackPointerOffset : Prop :=
  ∀ (s : State) (n : Byte),
    let v := s.sp + n.signExtend 16
    let fl := flags false false (decide (15 < s.sp.toNat % 16 + n.toNat % 16)) (decide (255 < s.sp.toNat % 256 + n.toNat))
    (encode (.add_SP_e8 n) = [0xE8, n] ∧ exec (.add_SP_e8 n) s = .next { after 2 16 s with sp := v, f := fl }) ∧
    (encode (.ld_HL_SPe8 n) = [0xF8, n] ∧ exec (.ld_HL_SPe8 n) s = .next { pHL.put v (after 2 12 s) with f := fl })

/-- RLCA, RRCA, RLA, RRA: A and C, with Z, N and H always 0 (R270, R271, R272, R273). -/
def Obligations.AccumulatorRotates : Prop :=
  ∀ s : State,
    (∀ p ∈ rotateAForms, encode p.1 = [byte (0x07 + 8 * p.2.1)] ∧ exec p.1 s = .next (
        { after 1 4 s with a := (p.2.2 s.a s.flagC).1, f := flags false false false (p.2.2 s.a s.flagC).2 }))

/-- RLC, RRC, RL, RR, SLA, SRA, SWAP, SRL of a register: result, Z, C, and nothing else (R274, R276, R278, R280, R282,
R284, R286, R288). -/
def Obligations.PrefixedRotatesOfRegisters : Prop :=
  ∀ s : State,
    (∀ p ∈ rotateForms, encode p.1 = [0xCB, byte (8 * p.2.1 + p.2.2.2.code)] ∧
      exec p.1 s = .next { p.2.2.2.put (p.2.2.1 (p.2.2.2.get s) s.flagC).1 (after 2 8 s) with
        f := flags (decide ((p.2.2.1 (p.2.2.2.get s) s.flagC).1 = 0)) false false (p.2.2.1 (p.2.2.2.get s) s.flagC).2 })

/-- RLC, RRC, RL, RR, SLA, SRA, SWAP, SRL of (HL): the byte stored, Z, C, and nothing else (R275, R277, R279, R281,
R283, R285, R287, R289). -/
def Obligations.PrefixedRotatesOfMemory : Prop :=
  ∀ s : State,
    (∀ p ∈ rotateMemForms, encode p.1 = [0xCB, byte (8 * p.2.1 + 6)] ∧
      exec p.1 s = .next { writeByte (hl s) (p.2.2 (atHL s) s.flagC).1 (after 2 16 s) with
        f := flags (decide ((p.2.2 (atHL s) s.flagC).1 = 0)) false false (p.2.2 (atHL s) s.flagC).2 })

/-- BIT b,r and BIT b,(HL): Z the complement of the bit, N 0, H 1, C kept, nothing else written (R300, R301). -/
def Obligations.BitTest : Prop :=
  ∀ s : State,
    (∀ p ∈ bitForms, encode p.1 = [0xCB, byte (0x40 + 8 * p.2.1 + p.2.2.code)] ∧
      exec p.1 s = .next { after 2 8 s with f := flags (!(p.2.2.get s).getLsbD p.2.1) false true s.flagC }) ∧
    (∀ p ∈ bitMemForms, encode p.1 = [0xCB, byte (0x46 + 8 * p.2)] ∧
      exec p.1 s = .next { after 2 12 s with f := flags (!(atHL s).getLsbD p.2) false true s.flagC })

/-- RES and SET of a bit of a register or of (HL): that bit only, and no flag (R302, R303, R304, R305). -/
def Obligations.BitResetAndSet : Prop :=
  ∀ s : State,
    (∀ p ∈ resForms, encode p.1 = [0xCB, byte (0x80 + 8 * p.2.1 + p.2.2.code)] ∧
      exec p.1 s = .next (p.2.2.put (p.2.2.get s &&& ~~~(1#8 <<< p.2.1)) (after 2 8 s))) ∧
    (∀ p ∈ resMemForms, encode p.1 = [0xCB, byte (0x86 + 8 * p.2)] ∧
      exec p.1 s = .next (writeByte (hl s) (atHL s &&& ~~~(1#8 <<< p.2)) (after 2 16 s))) ∧
    (∀ p ∈ setForms, encode p.1 = [0xCB, byte (0xC0 + 8 * p.2.1 + p.2.2.code)] ∧
      exec p.1 s = .next (p.2.2.put (p.2.2.get s ||| 1#8 <<< p.2.1) (after 2 8 s))) ∧
    (∀ p ∈ setMemForms, encode p.1 = [0xCB, byte (0xC6 + 8 * p.2)] ∧
      exec p.1 s = .next (writeByte (hl s) (atHL s ||| 1#8 <<< p.2) (after 2 16 s)))

/-- JP a16, JP cc,a16 and JP HL: where PC goes, what each costs, and nothing else (R321, R322, R323). -/
def Obligations.Jumps : Prop :=
  ∀ (s : State) (w : Word),
    (encode (.jp_a16 w) = [0xC3, loByte w, hiByte w] ∧ exec (.jp_a16 w) s = .next { after 3 16 s with pc := w }) ∧
    (encode .jp_HL = [0xE9] ∧ exec .jp_HL s = .next { after 1 4 s with pc := hl s }) ∧
    (∀ p ∈ jpForms, encode (p.1 w) = [byte (0xC2 + 8 * p.2.1), loByte w, hiByte w] ∧
      exec (p.1 w) s = .next (if p.2.2 s then { after 3 16 s with pc := w } else after 3 12 s))

/-- JR e8 and JR cc,e8: PC plus the signed displacement, from the next instruction (R324, R325). -/
def Obligations.RelativeJumps : Prop :=
  ∀ (s : State) (n : Byte),
    (encode (.jr_e8 n) = [0x18, n] ∧
      exec (.jr_e8 n) s = .next { after 2 12 s with pc := (after 2 12 s).pc + n.signExtend 16 }) ∧
    (∀ p ∈ jrForms, encode (p.1 n) = [byte (0x20 + 8 * p.2.1), n] ∧
      exec (p.1 n) s = .next
        (if p.2.2 s then { after 2 12 s with pc := (after 2 12 s).pc + n.signExtend 16 } else after 2 8 s))

/-- CALL a16, CALL cc,a16 and RST: the return address pushed, PC at the target, and nothing else (R326, R327, R340).
-/
def Obligations.CallsAndRestarts : Prop :=
  ∀ (s : State) (w : Word),
    (encode (.call_a16 w) = [0xCD, loByte w, hiByte w] ∧
      exec (.call_a16 w) s = .next { pushed (after 3 24 s).pc (after 3 24 s) with pc := w }) ∧
    (∀ p ∈ callForms, encode (p.1 w) = [byte (0xC4 + 8 * p.2.1), loByte w, hiByte w] ∧
      exec (p.1 w) s = .next
        (if p.2.2 s then { pushed (after 3 24 s).pc (after 3 24 s) with pc := w } else after 3 12 s)) ∧
    (∀ p ∈ rstForms, encode p.1 = [byte (0xC7 + 8 * p.2)] ∧
      exec p.1 s = .next { pushed (after 1 16 s).pc (after 1 16 s) with pc := BitVec.ofNat 16 (8 * p.2) })

/-- RET, RET cc and RETI: PC popped, SP up by two, IME for RETI, and nothing else (R328, R329, R330). -/
def Obligations.Returns : Prop :=
  ∀ s : State,
    (encode .ret = [0xC9] ∧ exec .ret s = .next { after 1 16 s with pc := top s, sp := s.sp + 2 }) ∧
    (∀ p ∈ retForms, encode p.1 = [byte (0xC0 + 8 * p.2.1)] ∧
      exec p.1 s = .next (if p.2.2 s then { after 1 20 s with pc := top s, sp := s.sp + 2 } else after 1 8 s)) ∧
    (encode .reti = [0xD9] ∧
      exec .reti s = .next { after 1 16 s with pc := top s, sp := s.sp + 2, ime := true, eiPending := false })

/-- LD r,r', LD r,d8, LD r,(HL), LD (HL),r and LD (HL),d8: the byte moved, no flag, nothing else (R350, R351, R352,
R353, R354). -/
def Obligations.ByteLoads : Prop :=
  ∀ s : State,
    (∀ p ∈ loadForms, encode p.1 = [byte (0x40 + 8 * p.2.1.code + p.2.2.code)] ∧
      exec p.1 s = .next (p.2.1.put (p.2.2.get s) (after 1 4 s))) ∧
    (∀ n : Byte, ∀ p ∈ loadImmForms, encode (p.1 n) = [byte (0x06 + 8 * p.2.code), n] ∧
      exec (p.1 n) s = .next (p.2.put n (after 2 8 s))) ∧
    (∀ p ∈ loadMemForms, encode p.1 = [byte (0x46 + 8 * p.2.code)] ∧ exec p.1 s = .next (p.2.put (atHL s) (after 1 8 s))) ∧
    (∀ p ∈ storeMemForms, encode p.1 = [byte (0x70 + p.2.code)] ∧ exec p.1 s = .next (writeByte (hl s) (p.2.get s) (after 1 8 s))) ∧
    (∀ n : Byte, encode (.ld_atHL_d8 n) = [0x36, n] ∧
      exec (.ld_atHL_d8 n) s = .next (writeByte (hl s) n (after 2 12 s)))

/-- LD A from (BC), (DE), (a16), (0xFF00 + a8) and (0xFF00 + C): A holds the byte read, nothing else (R355, R356,
R359, R361, R363). -/
def Obligations.AccumulatorLoads : Prop :=
  ∀ s : State,
    (encode .ld_A_atBC = [0x0A] ∧ exec .ld_A_atBC s = .next { after 1 8 s with a := readByte s (s.b ++ s.c) }) ∧
    (encode .ld_A_atDE = [0x1A] ∧ exec .ld_A_atDE s = .next { after 1 8 s with a := readByte s (s.d ++ s.e) }) ∧
    (∀ w : Word, encode (.ld_A_atA16 w) = [0xFA, loByte w, hiByte w] ∧
      exec (.ld_A_atA16 w) s = .next { after 3 16 s with a := readByte s w }) ∧
    (∀ n : Byte, encode (.ldh_A_atA8 n) = [0xF0, n] ∧
      exec (.ldh_A_atA8 n) s = .next { after 2 12 s with a := readByte s (0xFF00 + n.setWidth 16) }) ∧
    (encode .ld_A_atC = [0xF2] ∧ exec .ld_A_atC s = .next { after 1 8 s with a := readByte s (0xFF00 + s.c.setWidth 16) })

/-- LD to (BC), (DE), (a16), (0xFF00 + a8) and (0xFF00 + C) from A: one bus write, nothing else (R357, R358, R360,
R362, R364). -/
def Obligations.AccumulatorStores : Prop :=
  ∀ s : State,
    (encode .ld_atBC_A = [0x02] ∧ exec .ld_atBC_A s = .next (writeByte (s.b ++ s.c) s.a (after 1 8 s))) ∧
    (encode .ld_atDE_A = [0x12] ∧ exec .ld_atDE_A s = .next (writeByte (s.d ++ s.e) s.a (after 1 8 s))) ∧
    (∀ w : Word, encode (.ld_atA16_A w) = [0xEA, loByte w, hiByte w] ∧
      exec (.ld_atA16_A w) s = .next (writeByte w s.a (after 3 16 s))) ∧
    (∀ n : Byte, encode (.ldh_atA8_A n) = [0xE0, n] ∧
      exec (.ldh_atA8_A n) s = .next (writeByte (0xFF00 + n.setWidth 16) s.a (after 2 12 s))) ∧
    (encode .ld_atC_A = [0xE2] ∧ exec .ld_atC_A s = .next (writeByte (0xFF00 + s.c.setWidth 16) s.a (after 1 8 s)))

/-- LD A,(HL+), LD A,(HL-), LD (HL+),A, LD (HL-),A: the access at the old HL, then HL moved by one (R365, R366, R367,
R368). -/
def Obligations.SteppingLoadsAndStores : Prop :=
  ∀ s : State,
    (encode .ld_A_atHLinc = [0x2A] ∧ exec .ld_A_atHLinc s = .next { pHL.put (hl s + 1) (after 1 8 s) with a := atHL s }) ∧
    (encode .ld_A_atHLdec = [0x3A] ∧ exec .ld_A_atHLdec s = .next { pHL.put (hl s - 1) (after 1 8 s) with a := atHL s }) ∧
    (encode .ld_atHLinc_A = [0x22] ∧ exec .ld_atHLinc_A s = .next (pHL.put (hl s + 1) (writeByte (hl s) s.a (after 1 8 s)))) ∧
    (encode .ld_atHLdec_A = [0x32] ∧ exec .ld_atHLdec_A s = .next (pHL.put (hl s - 1) (writeByte (hl s) s.a (after 1 8 s))))

/-- LD rr,d16, LD (a16),SP and LD SP,HL: the word moved, no flag, nothing else (R369, R370, R371). -/
def Obligations.WordLoads : Prop :=
  ∀ (s : State) (w : Word),
    (∀ p ∈ loadPairForms, encode (p.1 w) = [byte (0x01 + 16 * p.2.code), loByte w, hiByte w] ∧
      exec (p.1 w) s = .next (p.2.put w (after 3 12 s))) ∧
    (encode (.ld_atA16_SP w) = [0x08, loByte w, hiByte w] ∧
      exec (.ld_atA16_SP w) s = .next (writeByte (w + 1) (hiByte s.sp) (writeByte w (loByte s.sp) (after 3 20 s)))) ∧
    (encode .ld_SP_HL = [0xF9] ∧ exec .ld_SP_HL s = .next { after 1 8 s with sp := hl s })

/-- PUSH rr and POP rr: the word on the stack, SP by two, F masked by POP AF, nothing else (R390, R391, R392). -/
def Obligations.PushAndPop : Prop :=
  ∀ s : State,
    (∀ p ∈ pushForms, encode p.1 = [byte (0xC5 + 16 * p.2.code)] ∧ exec p.1 s = .next (pushed (p.2.get s) (after 1 16 s))) ∧
    (∀ p ∈ popForms, encode p.1 = [byte (0xC1 + 16 * p.2.code)] ∧ exec p.1 s = .next ({ p.2.put (top s) (after 1 12 s) with sp := s.sp + 2 })) ∧
    (encode .pop_AF = [0xF1] ∧ exec .pop_AF s = .next { pAF.put (top s) (after 1 12 s) with sp := s.sp + 2 })

/-- PUSH then POP of a pair gives the pair and SP back, where the stack bytes are plain memory (47_stack R391,
47_stack R392, 20_memory R120). -/
def Obligations.PushThenPopReturns : Prop :=
  ∀ s : State, s.mem.wf = true → s.f &&& 0x0F = 0 →
    (∀ x ∈ stackSlots s, 0x8000 ≤ x.toNat ∧ x ≠ 0xFF00 ∧ x ≠ 0xFF01 ∧ x ≠ 0xFF04 ∧ x ≠ 0xFF41 ∧ x ≠ 0xFF46) →
    ∀ p ∈ [(Instr.push_BC, Instr.pop_BC), (Instr.push_DE, Instr.pop_DE), (Instr.push_HL, Instr.pop_HL),
      (Instr.push_AF, Instr.pop_AF)],
    ∃ t u, exec p.1 s = .next t ∧ exec p.2 t = .next u ∧ u.sp = s.sp ∧ ∀ r : Reg8, u.reg8 r = s.reg8 r

/-- NOP, SCF, CCF, EI and DI: the flags or IME, and nothing else. With `EI_DELAY` and IME already 1 the EI clause
follows the pseudocode of R403 (`ei_pending` is set) over its sentence that EI then changes nothing: log 15, DEDUCED
(48_cpu_control R400, 48_cpu_control R401, 48_cpu_control R402, 48_cpu_control R403, 48_cpu_control R404). -/
def Obligations.PlainControl : Prop :=
  ∀ s : State,
    (encode .nop = [0x00] ∧ exec .nop s = .next (after 1 4 s)) ∧
    (encode .scf = [0x37] ∧ exec .scf s = .next { after 1 4 s with f := flags s.flagZ false false true }) ∧
    (encode .ccf = [0x3F] ∧ exec .ccf s = .next { after 1 4 s with f := flags s.flagZ false false (!s.flagC) }) ∧
    (encode .ei = [0xFB] ∧ exec .ei s = .next
      (if s.cfg.eiDelay then { after 1 4 s with eiPending := true } else { after 1 4 s with ime := true })) ∧
    (encode .di = [0xF3] ∧ exec .di s = .next { after 1 4 s with ime := false, eiPending := false })

/-- HALT and STOP: halted, halt_bug or stopped set, the divider reset by STOP, nothing else. In a state with
`halt_bug` set already, that HALT may end with it set again is the model's reading of R531: log 5, DEDUCED
(48_cpu_control R405, 48_cpu_control R406, 60_exceptions R531). -/
def Obligations.HaltAndStop : Prop :=
  ∀ s : State,
    (encode .halt = [0x76] ∧ exec .halt s = .next
      (if s.cfg.haltBug = true ∧ s.ime = false ∧ s.cell 0xFF0F &&& s.cell 0xFFFF &&& 0x1F ≠ 0
        then { after 1 4 s with haltBug := true } else { after 1 4 s with halted := true })) ∧
    (∀ n : Byte, encode (.stop n) = [0x10, n] ∧ exec (.stop n) s = .next { after 2 4 s with stopped := true, div := 0 })

/-- The eleven illegal bytes: the decode fault recorded, and nothing else. The fault as a next state is log 4 (DESIGN
CHOICE), `halt_bug` and `ei_pending` left as they are is log 6 (DEDUCED) (30_encoding R162, 60_exceptions R540,
00_scope R15). -/
def Obligations.IllegalBytesFault : Prop :=
  ∀ s : State,
    (∀ p ∈ illegalForms, p.2 ∈ illegalBytes ∧ (∀ x y, decode3 p.2 x y = p.1) ∧ p.1.wellFormed = false ∧
      exec p.1 s = .next { s with fault := some (.unknownOpcode p.2 s.pc) }) ∧
    (∀ b ∈ illegalBytes, ∃ i, (i, b) ∈ illegalForms)

/-- A step faults exactly when it runs an illegal byte, and then changes only fault; a faulted machine is stuck. The
fault as a next state is log 4 (DESIGN CHOICE), `halt_bug` and `ei_pending` left as they are is log 6 (DEDUCED)
(60_exceptions R540, 60_exceptions R500, 30_encoding R162, 00_scope R15). -/
def Obligations.FaultOnlyFromIllegalByte : Prop :=
  (∀ s t : State, s.fault = none → step s = .next t →
    (t.fault ≠ none ↔ runs s ∧ readByte s s.pc ∈ illegalBytes) ∧
    (t.fault ≠ none → t = { s with halted := false, fault := some (.unknownOpcode (readByte s s.pc) s.pc) })) ∧
  (∀ s : State, s.fault ≠ none → step s = .next s) ∧
  (∀ f : Fault, causeCode f = 1)

/-- A step runs the decoded instruction, then commits a pending EI and advances the devices by its cost (60_exceptions
R500, 60_exceptions R503, 60_exceptions R531, 30_encoding R160). -/
def Obligations.StepRunsDecodedInstruction : Prop :=
  ∀ (s : State) (i : Instr) (rest : List Byte), runs s → decodeBytes (fetched s) = .ok (i, rest) →
    ∃ t, exec i { s with halted := false } = .next t ∧ t.fault = none ∧
      step s = .next (advance (t.cycles - s.cycles)
        (if s.eiPending = true ∧ t.eiPending = true then { t with ime := true, eiPending := false } else t))

/-- Taking an interrupt: the lowest pending bit, IF and IME cleared, the return address pushed, the vector, 24 cycles
(R514, R515, R516, R632). -/
def Obligations.InterruptDispatch : Prop :=
  (∀ (s : State) (j : Nat), (pending s).getLsbD j = ((s.cell 0xFF0F).getLsbD j && (s.cell 0xFFFF).getLsbD j && decide (j < 5))) ∧
  (∀ (s : State) (k : Nat), s.fault = none → s.stopped = false → s.ime = true → (pending s).getLsbD k = true →
    (∀ j, j < k → (pending s).getLsbD j = false) →
    step s = .next (advance 24
      { pushed (if s.haltBug then s.pc - 1 else s.pc)
          { s with
            halted := false, ime := false, eiPending := false, haltBug := false, cycles := s.cycles + 24,
            mem := s.mem.write 0xFF0F (s.cell 0xFF0F &&& ~~~(1#8 <<< k)) } with
        pc := BitVec.ofNat 16 (0x40 + 8 * k) }))

/-- Halted, stopped and faulted steps: what they cost, what they advance, and the wake from HALT. That a stopped step
adds its 4 cycles to the running total is log 9, that a faulted machine answers the same state is log 4 (both DESIGN
CHOICE) (70_reset_and_hazards R633, 60_exceptions R500, 60_exceptions R530, 60_exceptions R535, 60_exceptions R540).
-/
def Obligations.StepsWithoutInstruction : Prop :=
  ∀ s : State,
    (s.fault = none → s.stopped = false → s.halted = true → pending s = 0 →
      step s = .next (advance 4 { s with cycles := s.cycles + 4 })) ∧
    (s.fault = none → s.stopped = false → s.halted = true → pending s ≠ 0 → step s = step { s with halted := false }) ∧
    (s.fault = none → s.stopped = true → step s = .next { s with cycles := s.cycles + 4 }) ∧
    (s.fault ≠ none → step s = .next s)

/-- exec and step always answer a next state. That the decode fault, which leaves the machine stuck, is a next state
too is log 4 (DESIGN CHOICE) (60_exceptions R540, 60_exceptions R542, 20_memory R106). -/
def Obligations.StepAlwaysAnswers : Prop :=
  (∀ (i : Instr) (s : State), ∃ t, exec i s = .next t) ∧ (∀ s : State, ∃ t, step s = .next t)

/-- With an EI pending, the next instruction ends with IME set, unless it is DI, and nothing is pending any more
(60_exceptions R503, 70_reset_and_hazards R622). -/
def Obligations.EiTakesEffectAfterNextInstruction : Prop :=
  ∀ (s t : State) (i : Instr) (rest : List Byte), runs s → s.eiPending = true → decodeBytes (fetched s) = .ok (i, rest) →
    step s = .next t → t.eiPending = false ∧ (t.ime = true ↔ i ≠ .di)

/-- Reading the bus, range by range: boot overlay, bank window, joypad, divider, cells (R110, R131). -/
def Obligations.BusRead : Prop :=
  ∀ (s : State) (x : Word),
    (∀ img, s.bootRom = some img → s.cell 0xFF50 = 0 → x.toNat < 0x100 → readByte s x = img.getD x.toNat 0) ∧
    (s.mbc1 = true → 0x4000 ≤ x.toNat → x.toNat ≤ 0x7FFF →
      readByte s x = s.rom.getD (s.romBank.toNat * 0x4000 + (x.toNat - 0x4000)) 0xFF) ∧
    (x = 0xFF00 → readByte s x = joypadRead s) ∧
    (x = 0xFF04 → (readByte s x).toNat = s.div.toNat / 256) ∧
    ((s.bootRom = none ∨ s.cell 0xFF50 ≠ 0 ∨ 0x100 ≤ x.toNat) → ¬(s.mbc1 = true ∧ 0x4000 ≤ x.toNat ∧ x.toNat ≤ 0x7FFF) →
      x ≠ 0xFF00 → x ≠ 0xFF04 → readByte s x = s.cell x.toNat)

/-- Writing the bus, range by range: ROM ignored, bank select, divider, STAT, serial hook, DMA, cells (R120, R121,
R122). -/
def Obligations.BusWrite : Prop :=
  ∀ (s : State) (x : Word) (v : Byte),
    (x.toNat ≤ 0x7FFF → ¬(s.mbc1 = true ∧ 0x2000 ≤ x.toNat ∧ x.toNat ≤ 0x3FFF) → writeByte x v s = s) ∧
    (s.mbc1 = true → 0x2000 ≤ x.toNat → x.toNat ≤ 0x3FFF →
      writeByte x v s = { s with romBank := if v.toNat % 32 = 0 then 1 else BitVec.ofNat 5 v.toNat }) ∧
    (writeByte 0xFF04 v s = { s with div := 0 }) ∧
    (writeByte 0xFF41 v s = { s with mem := s.mem.write 0xFF41 (v &&& 0x78 ||| s.cell 0xFF41 &&& 0x87) }) ∧
    (writeByte 0xFF01 v s =
      { s with mem := s.mem.write 0xFF01 v, serialOut := if v = 0 then s.serialOut else s.serialOut ++ [v] }) ∧
    (writeByte 0xFF46 v s = oamDma v { s with mem := s.mem.write 0xFF46 v }) ∧
    (0x8000 ≤ x.toNat → x ≠ 0xFF01 → x ≠ 0xFF04 → x ≠ 0xFF41 → x ≠ 0xFF46 →
      writeByte x v s = { s with mem := s.mem.write x.toNat v })

/-- A byte stored at a plain address is read back, and every other address reads as before (R109). -/
def Obligations.PlainCellReadback : Prop :=
  ∀ (s : State) (x : Word) (v : Byte), s.mem.wf = true → 0x8000 ≤ x.toNat →
    x ≠ 0xFF00 → x ≠ 0xFF01 → x ≠ 0xFF04 → x ≠ 0xFF41 → x ≠ 0xFF46 →
    readByte (writeByte x v s) x = v ∧
      (x ≠ 0xFF50 → ∀ y, y ≠ x → readByte (writeByte x v s) y = readByte s y)

/-- A write to 0xFF46 copies 0xA0 bytes, read through the bus, to OAM, and changes nothing else (R125). -/
def Obligations.OamDmaCopies : Prop :=
  ∀ (s : State) (v : Byte), s.mem.wf = true →
    let t := writeByte 0xFF46 v s
    t = { s with mem := t.mem } ∧ t.cell 0xFF46 = v ∧
    (∀ i : Nat, i < 0xA0 → t.cell (0xFE00 + i) = readByte { s with mem := s.mem.write 0xFF46 v } (BitVec.ofNat 16 (v.toNat * 256 + i))) ∧
    (∀ y : Nat, y ≠ 0xFF46 → (y < 0xFE00 ∨ 0xFE9F < y) → t.cell y = s.cell y) ∧
    t.mem.wf = true

/-- The joypad: what a read of 0xFF00 composes, and what a button change does (R550, R551). -/
def Obligations.JoypadReadAndPress : Prop :=
  (∀ s : State, (joypadRead s).getLsbD 7 = true ∧ (joypadRead s).getLsbD 6 = true ∧
    (joypadRead s).getLsbD 5 = (s.cell 0xFF00).getLsbD 5 ∧ (joypadRead s).getLsbD 4 = (s.cell 0xFF00).getLsbD 4 ∧
    ∀ k, k < 4 → (joypadRead s).getLsbD k =
      !((!(s.cell 0xFF00).getLsbD 4 && direction s k) || (!(s.cell 0xFF00).getLsbD 5 && action s k))) ∧
  (∀ (s : State) (b : Button) (p : Bool),
    let t := joypadSet b p s
    let newPress := p && !s.buttons.get b
    let selected := !(s.cell 0xFF00).getLsbD (if isDirection b then 4 else 5)
    (∀ q, t.buttons.get q = if q = b then p else s.buttons.get q) ∧
    t = { s with
          buttons := t.buttons
          mem := if newPress && selected then s.mem.write 0xFF0F (s.cell 0xFF0F ||| 0x10) else s.mem
          stopped := s.stopped && !newPress })

/-- The divider counts every cycle of the advance, DIV reads its high byte, a write or STOP resets it (R560). -/
def Obligations.DividerAdvances : Prop :=
  (∀ (n : Nat) (s : State), (advance n s).div = s.div + BitVec.ofNat 16 n) ∧
  (∀ s : State, (readByte s 0xFF04).toNat = s.div.toNat / 256) ∧
  (∀ (s : State) (v : Byte), (writeByte 0xFF04 v s).div = 0) ∧
  (∀ (s : State) (n : Byte), ∃ t, exec (.stop n) s = .next t ∧ t.div = 0)

/-- TIMA counts once every 1024, 16, 64 or 256 cycles of div, reloads from TMA and requests on overflow (R561, R562).
-/
def Obligations.TimerTicksAtSelectedRate : Prop :=
  ∀ s : State, s.mem.wf = true →
    let t := timerCycle s
    let tac := (s.cell 0xFF07).toNat
    let period := if tac % 4 = 0 then 1024 else if tac % 4 = 1 then 16 else if tac % 4 = 2 then 64 else 256
    let tick : Bool := (s.cell 0xFF07).getLsbD 2 && decide ((s.div.toNat + 1) % period = 0)
    t = { s with div := s.div + 1, mem := t.mem } ∧
    t.cell 0xFF05 = (if tick then (if s.cell 0xFF05 = 0xFF then s.cell 0xFF06 else s.cell 0xFF05 + 1) else s.cell 0xFF05) ∧
    t.cell 0xFF0F = (if tick && decide (s.cell 0xFF05 = 0xFF) then s.cell 0xFF0F ||| 0x04 else s.cell 0xFF0F) ∧
    (∀ y, y ≠ 0xFF05 → y ≠ 0xFF0F → t.cell y = s.cell y)

/-- The PPU moves one dot per cycle through 154 lines of 456 dots, and a frame is counted every 70224 cycles
(60_exceptions R571, 60_exceptions R572, 60_exceptions R501). -/
def Obligations.PpuPositionAndFrames : Prop :=
  ∀ s : State, s.dot < 456 → s.line < 154 →
    (∀ n, position (advance n s) = (position s + n) % 70224 ∧ (advance n s).dot < 456 ∧ (advance n s).line < 154) ∧
    ∀ k, (advance (70224 * k) s).frameCount = s.frameCount + k

/-- The vertical blank: IF bit 0, frame_count and the presented frame, at line 144 dot 0 and nowhere else (R572). -/
def Obligations.VerticalBlank : Prop :=
  ∀ s : State, s.mem.wf = true →
    let t := ppuDot s
    let v : Bool := decide (s.line = 144 ∧ s.dot = 0)
    (t.cell 0xFF0F).getLsbD 0 = ((s.cell 0xFF0F).getLsbD 0 || v) ∧
    t.frameCount = (if v then s.frameCount + 1 else s.frameCount) ∧
    t.presented = (if v then s.framebuffer else s.presented)

/-- Every dot: STAT gets the mode and the coincidence, and a rising interrupt line requests lcdstat (R574, R575). -/
def Obligations.StatAndItsInterruptLine : Prop :=
  ∀ s : State, s.mem.wf = true → s.line < 154 →
    let t := ppuDot s
    (t.cell 0xFF41).toNat = (s.cell 0xFF41).toNat / 8 * 8 + (if s.line = (s.cell 0xFF45).toNat then 4 else 0) + modeAt s.line s.dot ∧
    t.statLine = statSignal s ∧
    (t.cell 0xFF0F).getLsbD 1 = ((s.cell 0xFF0F).getLsbD 1 || (statSignal s && !s.statLine)) ∧
    (t.cell 0xFF44).toNat = (if s.dot = 0 then s.line else (s.cell 0xFF44).toNat)

/-- At RENDER_DOT a visible line is drawn from background and window, and the window counts its line; blank with the
LCD off (60_exceptions R571, 60_exceptions R573, 60_exceptions R576, 60_exceptions R577, 60_exceptions R578,
60_exceptions R579, 60_exceptions R583). -/
def Obligations.BackgroundLineDrawn : Prop :=
  ∀ s : State, s.framebuffer.wf = true →
    (s.line < 144 → s.dot = s.cfg.renderDot →
      (bitAt s 0xFF40 7 = 0 ∨ bitAt s 0xFF40 1 = 0 →
        ∀ x, x < 160 → ((ppuDot s).framebuffer.pixel s.line x).toNat = layerShade s s.line x) ∧
      (∀ y, y ≠ s.line → (ppuDot s).framebuffer.row y = s.framebuffer.row y)) ∧
    (¬(s.line < 144 ∧ s.dot = s.cfg.renderDot) → (ppuDot s).framebuffer = s.framebuffer) ∧
    (ppuDot s).windowLine.toNat =
      if s.line < 144 ∧ s.dot = s.cfg.renderDot ∧ windowShown s s.line then (windowRow s + 1) % 256 else windowRow s

/-- The sprites of a line: the first ten (by default) in OAM order that cover it, ordered by X and then by OAM index
(R580). -/
def Obligations.SpriteSelectionAndOrder : Prop :=
  ∀ (s : State) (L : Nat), ∃ order : List Nat,
    order.Perm (selectedIndices s L) ∧ selectedSprites s L = order.map (oamEntry s) ∧
    order.Pairwise (fun i j => (s.cell (0xFE00 + 4 * i + 1)).toNat < (s.cell (0xFE00 + 4 * j + 1)).toNat ∨
      ((s.cell (0xFE00 + 4 * i + 1)).toNat = (s.cell (0xFE00 + 4 * j + 1)).toNat ∧ i < j)) ∧
    ∀ i, oamEntry s i =
      { y := s.cell (0xFE00 + 4 * i), x := s.cell (0xFE00 + 4 * i + 1), tile := s.cell (0xFE00 + 4 * i + 2),
        attr := s.cell (0xFE00 + 4 * i + 3) }

/-- The pixel of a sprite, and compositing: the first covering sprite with a non-zero colour decides, else the
background shows (R581, R582). -/
def Obligations.SpritePriority : Prop :=
  (∀ (s : State) (sp : Sprite) (L x : Nat), (spriteIndex s sp L x).toNat = spriteColour s sp L x) ∧
  (∀ (s : State) (L x : Nat) (bgci bg : Shade) (sprites : List Sprite),
    ((∀ sp ∈ sprites, ¬ decides s L x sp) → compositePixel s L x bgci bg sprites = bg) ∧
    (∀ front sp back, sprites = front ++ sp :: back → (∀ q ∈ front, ¬ decides s L x q) → decides s L x sp →
      (compositePixel s L x bgci bg sprites).toNat =
        if s.cfg.objBgPriority = true ∧ sp.attr.getLsbD 7 = true ∧ bgci ≠ 0 then bg.toNat else spriteShade s sp L x))

/-- For every instruction: an address that none of its stores reaches reads as before (20_memory R110, 20_memory R120,
46_loads R353, 47_stack R390, 45_control_transfer R326, 48_cpu_control R406). -/
def Obligations.StoresReachOnlyTheirAddresses : Prop :=
  ∀ (i : Instr) (s t : State) (y : Word), exec i s = .next t → (∀ x ∈ storedTo i s, ¬ reaches s x y) → readByte t y = readByte s y

/-- Every step keeps the state invariant (10_state R55, 10_state R61, 10_state R67, 20_memory R122, 60_exceptions
R531). -/
def Obligations.InvariantKeptByStep : Prop :=
  ∀ s t : State, s.Inv → step s = .next t → t.Inv

/-- The state after reset meets the state invariant (10_state R86, 70_reset_and_hazards R600). -/
def Obligations.InvariantAtReset : Prop :=
  State.reset.Inv

/-- Decoding the encoding of any legal instruction, whatever follows it, gives it back and leaves what follows
(30_encoding R150, 30_encoding R159, 30_encoding R161, 30_encoding R164, 30_encoding R165). -/
def Obligations.DecodeOfEncodeIsIdentity : Prop :=
  ∀ (i : Instr) (rest : List Byte), i.wellFormed = true → decodeBytes (encode i ++ rest) = .ok (i, rest)

/-- A few words written out from the spec decode to the instructions they stand for (30_encoding R151, 30_encoding
R157, 30_encoding R159, 30_encoding R161, 30_encoding R162, 30_encoding R165). -/
def Obligations.DecodedWords : Prop :=
  decodeBytes [0xC3, 0xAA, 0xBB] = .ok (.jp_a16 0xBBAA, []) ∧ decodeBytes [0xCB, 0xC0] = .ok (.set_0_B, []) ∧
  decodeBytes [0xCB, 0xC1] = .ok (.set_0_C, []) ∧ decodeBytes [0xCB, 0xC2] = .ok (.set_0_D, []) ∧
  decodeBytes [0xCB, 0xCB] = .ok (.set_1_E, []) ∧ decodeBytes [0x76] = .ok (.halt, []) ∧
  decodeBytes [0x10, 0x5A] = .ok (.stop 0x5A, []) ∧ decodeBytes [0x3E, 0x3F] = .ok (.ld_A_d8 0x3F, []) ∧
  decodeBytes [0x31, 0xFE, 0xFF] = .ok (.ld_SP_d16 0xFFFE, []) ∧ decodeBytes [0x18, 0x05] = .ok (.jr_e8 0x05, []) ∧
  decodeBytes [0xF8, 0x01] = .ok (.ld_HL_SPe8 0x01, []) ∧ decodeBytes [0xE0, 0x46] = .ok (.ldh_atA8_A 0x46, []) ∧
  decodeBytes [0x27] = .ok (.daa, []) ∧ decodeBytes [0xEF] = .ok (.rst_28H, []) ∧
  decodeBytes [0xD3] = .error (.unknownOpcode 0xD3)

/-- No step changes the cartridge image, the boot image, the MBC1 flag, the parameters or a cell below 0x8000
(20_memory R121, 10_state R63, 10_state R87). -/
def Obligations.CartridgeNeverChanges : Prop :=
  ∀ s t : State, step s = .next t →
    t.rom = s.rom ∧ t.bootRom = s.bootRom ∧ t.mbc1 = s.mbc1 ∧ t.cfg = s.cfg ∧ t.buttons = s.buttons ∧
    ∀ x, x < 0x8000 → t.cell x = s.cell x

/-- No step changes STAT bit 7, and IME rises only by EI, RETI or a pending EI (10_state R76, 10_state R61,
60_exceptions R512, 60_exceptions R503). -/
def Obligations.StatBitSevenAndImeWriters : Prop :=
  ∀ s t : State, s.mem.wf = true → step s = .next t →
    (t.cell 0xFF41).getLsbD 7 = (s.cell 0xFF41).getLsbD 7 ∧
    (s.ime = false → t.ime = true →
      s.eiPending = true ∨ ∃ rest, decodeBytes (fetched s) = .ok (.ei, rest) ∨ decodeBytes (fetched s) = .ok (.reti, rest))

/-- At RENDER_DOT with sprites on, each pixel of a visible line is that of the first selected sprite that decides it,
else the layer below (60_exceptions R576, 60_exceptions R578, 60_exceptions R579, 60_exceptions R580, 60_exceptions
R581, 60_exceptions R582, 60_exceptions R583). -/
def Obligations.SpritesDrawnOnLine : Prop :=
  ∀ (s : State) (x : Nat), s.framebuffer.wf = true → bitAt s 0xFF40 7 = 1 → bitAt s 0xFF40 1 = 1 →
    s.line < 144 → s.dot = s.cfg.renderDot → x < 160 →
    ((∀ sp ∈ selectedSprites s s.line, ¬ decides s s.line x sp) →
      ((ppuDot s).framebuffer.pixel s.line x).toNat = layerShade s s.line x) ∧
    (∀ front sp back, selectedSprites s s.line = front ++ sp :: back → (∀ q ∈ front, ¬ decides s s.line x q) →
      decides s s.line x sp →
      ((ppuDot s).framebuffer.pixel s.line x).toNat =
        if s.cfg.objBgPriority = true ∧ sp.attr.getLsbD 7 = true ∧ layerColour s s.line x ≠ 0 then layerShade s s.line x
        else spriteShade s sp s.line x)
end

