-- ==== Sys2Proof/Laws/Sparse.lean ====
section
/-! SUPPORT. The sparse map: read after write, and that a write keeps the canonical form; then the same for memory and frames. -/

namespace Sys2Proof.Machine

variable {α : Type} [DecidableEq α]

/-- Reading another key after a write gives what reading it before gave. -/
theorem sparseGet_set_other (dflt : α) (m : List (Nat × α)) (x y : Nat) (v : α) (h : y ≠ x) :
    sparseGet dflt (sparseSet dflt m x v) y = sparseGet dflt m y := by
  induction m with
  | nil =>
    by_cases hv : v = dflt <;> simp [sparseSet, sparseGet, hv, h]
  | cons p m ih =>
    obtain ⟨k, w⟩ := p
    simp only [sparseSet]
    split
    · split <;> simp [sparseGet, h]
    · split
      · next hk =>
        subst hk
        split <;> simp [sparseGet, h]
      · simp [sparseGet, ih]

/-- A key below every listed key is not listed. -/
theorem sparseGet_below (dflt : α) (hi : Nat) (m : List (Nat × α)) (lo x : Nat) (h : sparseWf dflt hi lo m = true)
    (hx : x < lo) : sparseGet dflt m x = dflt := by
  induction m generalizing lo with
  | nil => rfl
  | cons p m ih =>
    obtain ⟨k, w⟩ := p
    simp only [sparseWf, Bool.and_eq_true, decide_eq_true_eq] at h
    have : x ≠ k := by omega
    simp only [sparseGet, this, if_false]
    exact ih (k + 1) h.2 (by omega)

/-- Reading the key just written gives the value written. -/
theorem sparseGet_set_same (dflt : α) (hi : Nat) (m : List (Nat × α)) (lo x : Nat) (v : α)
    (h : sparseWf dflt hi lo m = true) : sparseGet dflt (sparseSet dflt m x v) x = v := by
  induction m generalizing lo with
  | nil =>
    by_cases hv : v = dflt <;> simp [sparseSet, sparseGet, hv]
  | cons p m ih =>
    obtain ⟨k, w⟩ := p
    simp only [sparseWf, Bool.and_eq_true, decide_eq_true_eq] at h
    simp only [sparseSet]
    split
    · next hk =>
      split
      · next hv =>
        have hne : x ≠ k := by omega
        simp only [sparseGet, hne, if_false]
        rw [sparseGet_below dflt hi m (k + 1) x h.2 (by omega), hv]
      · simp [sparseGet]
    · split
      · next hk =>
        split
        · next hv => rw [sparseGet_below dflt hi m (k + 1) x h.2 (by omega), hv]
        · simp [sparseGet]
      · next hk =>
        simp only [sparseGet, hk, if_false]
        exact ih (k + 1) h.2

/-- A lower bound on the keys may be lowered. -/
theorem sparseWf_mono (dflt : α) (hi : Nat) (m : List (Nat × α)) (lo lo' : Nat) (h : sparseWf dflt hi lo m = true)
    (hl : lo' ≤ lo) : sparseWf dflt hi lo' m = true := by
  cases m with
  | nil => rfl
  | cons p m =>
    obtain ⟨k, w⟩ := p
    simp only [sparseWf, Bool.and_eq_true, decide_eq_true_eq] at h ⊢
    exact ⟨⟨⟨by omega, h.1.1.2⟩, h.1.2⟩, h.2⟩

/-- A write in range keeps the canonical form. -/
theorem sparseSet_wf (dflt : α) (hi : Nat) (m : List (Nat × α)) (lo x : Nat) (v : α)
    (h : sparseWf dflt hi lo m = true) (hlo : lo ≤ x) (hx : x < hi) : sparseWf dflt hi lo (sparseSet dflt m x v) = true := by
  induction m generalizing lo with
  | nil =>
    by_cases hv : v = dflt <;> simp [sparseSet, sparseWf, hv, hlo, hx]
  | cons p m ih =>
    obtain ⟨k, w⟩ := p
    have h' := h
    simp only [sparseWf, Bool.and_eq_true, decide_eq_true_eq] at h
    simp only [sparseSet]
    split
    · split
      · exact h'
      · next hv =>
        simp only [sparseWf, Bool.and_eq_true, decide_eq_true_eq]
        exact ⟨⟨⟨hlo, hx⟩, hv⟩, ⟨⟨by omega, h.1.1.2⟩, h.1.2⟩, h.2⟩
    · split
      · next hk =>
        split
        · exact sparseWf_mono dflt hi m (k + 1) lo h.2 (by omega)
        · next hv =>
          simp only [sparseWf, Bool.and_eq_true, decide_eq_true_eq]
          exact ⟨⟨⟨hlo, hx⟩, hv⟩, by rw [hk]; exact h.2⟩
      · simp only [sparseWf, Bool.and_eq_true, decide_eq_true_eq]
        exact ⟨h.1, ih (k + 1) h.2 (by omega)⟩

/-! ## Memory -/

@[simp] theorem Memory.read_nil (x : Nat) : Memory.read [] x = 0 := rfl

/-- The cell just written. -/
theorem Memory.read_write_same (m : Memory) (x : Nat) (v : Byte) (h : m.wf = true) : (m.write x v).read x = v :=
  sparseGet_set_same 0 65536 m 0 x v h

/-- Every other cell. -/
theorem Memory.read_write_other (m : Memory) (x y : Nat) (v : Byte) (h : y ≠ x) : (m.write x v).read y = m.read y :=
  sparseGet_set_other 0 m x y v h

/-- A write keeps the canonical form. -/
theorem Memory.write_wf (m : Memory) (x : Nat) (v : Byte) (h : m.wf = true) (hx : x < 65536) : (m.write x v).wf = true :=
  sparseSet_wf 0 65536 m 0 x v h (Nat.zero_le x) hx

/-- A cell after a write to cell `x`, given the canonical form. -/
theorem State.cell_setCell_same (s : State) (x : Nat) (v : Byte) (h : s.mem.wf = true) : (s.setCell x v).cell x = v :=
  Memory.read_write_same s.mem x v h

/-- Every other cell after a write. -/
theorem State.cell_setCell_other (s : State) (x y : Nat) (v : Byte) (h : y ≠ x) : (s.setCell x v).cell y = s.cell y :=
  Memory.read_write_other s.mem x y v h

/-- A raw cell write keeps the canonical form. -/
theorem State.setCell_wf (s : State) (x : Nat) (v : Byte) (h : s.mem.wf = true) (hx : x < 65536) :
    (s.setCell x v).mem.wf = true := Memory.write_wf s.mem x v h hx

/-! ## Frames -/

/-- The line just drawn. -/
theorem Frame.row_setRow_same (fr : Frame) (y : Nat) (r : List Shade) (h : fr.wf = true) : (fr.setRow y r).row y = r := by
  simp only [Frame.wf, Bool.and_eq_true] at h
  exact sparseGet_set_same blankLine visibleLines fr 0 y r h.1

/-- Every other line. -/
theorem Frame.row_setRow_other (fr : Frame) (y z : Nat) (r : List Shade) (h : z ≠ y) : (fr.setRow y r).row z = fr.row z :=
  sparseGet_set_other blankLine fr y z r h

/-- The entries of a written map are old entries or the new one. -/
theorem mem_sparseSet (dflt : α) (m : List (Nat × α)) (x : Nat) (v : α) (p : Nat × α) (h : p ∈ sparseSet dflt m x v) :
    p ∈ m ∨ p = (x, v) := by
  induction m with
  | nil => simp only [sparseSet] at h; split at h <;> simp_all
  | cons q m ih =>
    obtain ⟨k, w⟩ := q
    simp only [sparseSet] at h
    split at h
    · split at h <;> simp_all
      tauto
    · split at h
      · split at h <;> simp_all
        tauto
      · rcases List.mem_cons.1 h with h | h
        · simp [h]
        · rcases ih h with h | h <;> simp [h]

/-- Drawing a line of 160 shades keeps the canonical form. -/
theorem Frame.setRow_wf (fr : Frame) (y : Nat) (r : List Shade) (h : fr.wf = true) (hy : y < visibleLines)
    (hr : r.length = visibleWidth) : (fr.setRow y r).wf = true := by
  simp only [Frame.wf, Bool.and_eq_true, List.all_eq_true, beq_iff_eq] at h ⊢
  refine ⟨sparseSet_wf blankLine visibleLines fr 0 y r h.1 (Nat.zero_le y) hy, fun p hp => ?_⟩
  rcases mem_sparseSet blankLine fr y r p hp with hp | hp
  · exact h.2 p hp
  · rw [hp]; exact hr

end Sys2Proof.Machine
end

