-- ==== Sys2Proof/Laws/State.lean ====
section
/-! SUPPORT. One lemma per field per update of State, true by rfl, so that no later proof unfolds a record update; and, for
each operation of the bus, the timer and the PPU, one lemma `…_only` that names all it can change. -/

namespace Sys2Proof.Machine

@[simp] theorem State.charge_a (s : State) (n : Nat) : (s.charge n).a = s.a := rfl
@[simp] theorem State.charge_f (s : State) (n : Nat) : (s.charge n).f = s.f := rfl
@[simp] theorem State.charge_b (s : State) (n : Nat) : (s.charge n).b = s.b := rfl
@[simp] theorem State.charge_c (s : State) (n : Nat) : (s.charge n).c = s.c := rfl
@[simp] theorem State.charge_d (s : State) (n : Nat) : (s.charge n).d = s.d := rfl
@[simp] theorem State.charge_e (s : State) (n : Nat) : (s.charge n).e = s.e := rfl
@[simp] theorem State.charge_h (s : State) (n : Nat) : (s.charge n).h = s.h := rfl
@[simp] theorem State.charge_l (s : State) (n : Nat) : (s.charge n).l = s.l := rfl
@[simp] theorem State.charge_sp (s : State) (n : Nat) : (s.charge n).sp = s.sp := rfl
@[simp] theorem State.charge_pc (s : State) (n : Nat) : (s.charge n).pc = s.pc := rfl
@[simp] theorem State.charge_ime (s : State) (n : Nat) : (s.charge n).ime = s.ime := rfl
@[simp] theorem State.charge_halted (s : State) (n : Nat) : (s.charge n).halted = s.halted := rfl
@[simp] theorem State.charge_stopped (s : State) (n : Nat) : (s.charge n).stopped = s.stopped := rfl
@[simp] theorem State.charge_eiPending (s : State) (n : Nat) : (s.charge n).eiPending = s.eiPending := rfl
@[simp] theorem State.charge_haltBug (s : State) (n : Nat) : (s.charge n).haltBug = s.haltBug := rfl
@[simp] theorem State.charge_fault (s : State) (n : Nat) : (s.charge n).fault = s.fault := rfl
@[simp] theorem State.charge_mem (s : State) (n : Nat) : (s.charge n).mem = s.mem := rfl
@[simp] theorem State.charge_bootRom (s : State) (n : Nat) : (s.charge n).bootRom = s.bootRom := rfl
@[simp] theorem State.charge_rom (s : State) (n : Nat) : (s.charge n).rom = s.rom := rfl
@[simp] theorem State.charge_mbc1 (s : State) (n : Nat) : (s.charge n).mbc1 = s.mbc1 := rfl
@[simp] theorem State.charge_romBank (s : State) (n : Nat) : (s.charge n).romBank = s.romBank := rfl
@[simp] theorem State.charge_div (s : State) (n : Nat) : (s.charge n).div = s.div := rfl
@[simp] theorem State.charge_buttons (s : State) (n : Nat) : (s.charge n).buttons = s.buttons := rfl
@[simp] theorem State.charge_dot (s : State) (n : Nat) : (s.charge n).dot = s.dot := rfl
@[simp] theorem State.charge_line (s : State) (n : Nat) : (s.charge n).line = s.line := rfl
@[simp] theorem State.charge_windowLine (s : State) (n : Nat) : (s.charge n).windowLine = s.windowLine := rfl
@[simp] theorem State.charge_statLine (s : State) (n : Nat) : (s.charge n).statLine = s.statLine := rfl
@[simp] theorem State.charge_framebuffer (s : State) (n : Nat) : (s.charge n).framebuffer = s.framebuffer := rfl
@[simp] theorem State.charge_frameCount (s : State) (n : Nat) : (s.charge n).frameCount = s.frameCount := rfl
@[simp] theorem State.charge_presented (s : State) (n : Nat) : (s.charge n).presented = s.presented := rfl
@[simp] theorem State.charge_serialOut (s : State) (n : Nat) : (s.charge n).serialOut = s.serialOut := rfl
@[simp] theorem State.charge_cycles (s : State) (n : Nat) : (s.charge n).cycles = s.cycles + n := rfl
@[simp] theorem State.charge_cfg (s : State) (n : Nat) : (s.charge n).cfg = s.cfg := rfl

@[simp] theorem State.advancePc_a (s : State) (n : Nat) : (s.advancePc n).a = s.a := rfl
@[simp] theorem State.advancePc_f (s : State) (n : Nat) : (s.advancePc n).f = s.f := rfl
@[simp] theorem State.advancePc_b (s : State) (n : Nat) : (s.advancePc n).b = s.b := rfl
@[simp] theorem State.advancePc_c (s : State) (n : Nat) : (s.advancePc n).c = s.c := rfl
@[simp] theorem State.advancePc_d (s : State) (n : Nat) : (s.advancePc n).d = s.d := rfl
@[simp] theorem State.advancePc_e (s : State) (n : Nat) : (s.advancePc n).e = s.e := rfl
@[simp] theorem State.advancePc_h (s : State) (n : Nat) : (s.advancePc n).h = s.h := rfl
@[simp] theorem State.advancePc_l (s : State) (n : Nat) : (s.advancePc n).l = s.l := rfl
@[simp] theorem State.advancePc_sp (s : State) (n : Nat) : (s.advancePc n).sp = s.sp := rfl
@[simp] theorem State.advancePc_pc (s : State) (n : Nat) : (s.advancePc n).pc = s.pc + BitVec.ofNat 16 (if s.haltBug then n - 1 else n) := rfl
@[simp] theorem State.advancePc_ime (s : State) (n : Nat) : (s.advancePc n).ime = s.ime := rfl
@[simp] theorem State.advancePc_halted (s : State) (n : Nat) : (s.advancePc n).halted = s.halted := rfl
@[simp] theorem State.advancePc_stopped (s : State) (n : Nat) : (s.advancePc n).stopped = s.stopped := rfl
@[simp] theorem State.advancePc_eiPending (s : State) (n : Nat) : (s.advancePc n).eiPending = s.eiPending := rfl
@[simp] theorem State.advancePc_haltBug (s : State) (n : Nat) : (s.advancePc n).haltBug = false := rfl
@[simp] theorem State.advancePc_fault (s : State) (n : Nat) : (s.advancePc n).fault = s.fault := rfl
@[simp] theorem State.advancePc_mem (s : State) (n : Nat) : (s.advancePc n).mem = s.mem := rfl
@[simp] theorem State.advancePc_bootRom (s : State) (n : Nat) : (s.advancePc n).bootRom = s.bootRom := rfl
@[simp] theorem State.advancePc_rom (s : State) (n : Nat) : (s.advancePc n).rom = s.rom := rfl
@[simp] theorem State.advancePc_mbc1 (s : State) (n : Nat) : (s.advancePc n).mbc1 = s.mbc1 := rfl
@[simp] theorem State.advancePc_romBank (s : State) (n : Nat) : (s.advancePc n).romBank = s.romBank := rfl
@[simp] theorem State.advancePc_div (s : State) (n : Nat) : (s.advancePc n).div = s.div := rfl
@[simp] theorem State.advancePc_buttons (s : State) (n : Nat) : (s.advancePc n).buttons = s.buttons := rfl
@[simp] theorem State.advancePc_dot (s : State) (n : Nat) : (s.advancePc n).dot = s.dot := rfl
@[simp] theorem State.advancePc_line (s : State) (n : Nat) : (s.advancePc n).line = s.line := rfl
@[simp] theorem State.advancePc_windowLine (s : State) (n : Nat) : (s.advancePc n).windowLine = s.windowLine := rfl
@[simp] theorem State.advancePc_statLine (s : State) (n : Nat) : (s.advancePc n).statLine = s.statLine := rfl
@[simp] theorem State.advancePc_framebuffer (s : State) (n : Nat) : (s.advancePc n).framebuffer = s.framebuffer := rfl
@[simp] theorem State.advancePc_frameCount (s : State) (n : Nat) : (s.advancePc n).frameCount = s.frameCount := rfl
@[simp] theorem State.advancePc_presented (s : State) (n : Nat) : (s.advancePc n).presented = s.presented := rfl
@[simp] theorem State.advancePc_serialOut (s : State) (n : Nat) : (s.advancePc n).serialOut = s.serialOut := rfl
@[simp] theorem State.advancePc_cycles (s : State) (n : Nat) : (s.advancePc n).cycles = s.cycles := rfl
@[simp] theorem State.advancePc_cfg (s : State) (n : Nat) : (s.advancePc n).cfg = s.cfg := rfl

@[simp] theorem State.putFlags_a (s : State) (z n h c : Bool) : (s.putFlags z n h c).a = s.a := rfl
@[simp] theorem State.putFlags_f (s : State) (z n h c : Bool) : (s.putFlags z n h c).f = packFlags z n h c := rfl
@[simp] theorem State.putFlags_b (s : State) (z n h c : Bool) : (s.putFlags z n h c).b = s.b := rfl
@[simp] theorem State.putFlags_c (s : State) (z n h c : Bool) : (s.putFlags z n h c).c = s.c := rfl
@[simp] theorem State.putFlags_d (s : State) (z n h c : Bool) : (s.putFlags z n h c).d = s.d := rfl
@[simp] theorem State.putFlags_e (s : State) (z n h c : Bool) : (s.putFlags z n h c).e = s.e := rfl
@[simp] theorem State.putFlags_h (s : State) (z n h c : Bool) : (s.putFlags z n h c).h = s.h := rfl
@[simp] theorem State.putFlags_l (s : State) (z n h c : Bool) : (s.putFlags z n h c).l = s.l := rfl
@[simp] theorem State.putFlags_sp (s : State) (z n h c : Bool) : (s.putFlags z n h c).sp = s.sp := rfl
@[simp] theorem State.putFlags_pc (s : State) (z n h c : Bool) : (s.putFlags z n h c).pc = s.pc := rfl
@[simp] theorem State.putFlags_ime (s : State) (z n h c : Bool) : (s.putFlags z n h c).ime = s.ime := rfl
@[simp] theorem State.putFlags_halted (s : State) (z n h c : Bool) : (s.putFlags z n h c).halted = s.halted := rfl
@[simp] theorem State.putFlags_stopped (s : State) (z n h c : Bool) : (s.putFlags z n h c).stopped = s.stopped := rfl
@[simp] theorem State.putFlags_eiPending (s : State) (z n h c : Bool) : (s.putFlags z n h c).eiPending = s.eiPending := rfl
@[simp] theorem State.putFlags_haltBug (s : State) (z n h c : Bool) : (s.putFlags z n h c).haltBug = s.haltBug := rfl
@[simp] theorem State.putFlags_fault (s : State) (z n h c : Bool) : (s.putFlags z n h c).fault = s.fault := rfl
@[simp] theorem State.putFlags_mem (s : State) (z n h c : Bool) : (s.putFlags z n h c).mem = s.mem := rfl
@[simp] theorem State.putFlags_bootRom (s : State) (z n h c : Bool) : (s.putFlags z n h c).bootRom = s.bootRom := rfl
@[simp] theorem State.putFlags_rom (s : State) (z n h c : Bool) : (s.putFlags z n h c).rom = s.rom := rfl
@[simp] theorem State.putFlags_mbc1 (s : State) (z n h c : Bool) : (s.putFlags z n h c).mbc1 = s.mbc1 := rfl
@[simp] theorem State.putFlags_romBank (s : State) (z n h c : Bool) : (s.putFlags z n h c).romBank = s.romBank := rfl
@[simp] theorem State.putFlags_div (s : State) (z n h c : Bool) : (s.putFlags z n h c).div = s.div := rfl
@[simp] theorem State.putFlags_buttons (s : State) (z n h c : Bool) : (s.putFlags z n h c).buttons = s.buttons := rfl
@[simp] theorem State.putFlags_dot (s : State) (z n h c : Bool) : (s.putFlags z n h c).dot = s.dot := rfl
@[simp] theorem State.putFlags_line (s : State) (z n h c : Bool) : (s.putFlags z n h c).line = s.line := rfl
@[simp] theorem State.putFlags_windowLine (s : State) (z n h c : Bool) : (s.putFlags z n h c).windowLine = s.windowLine := rfl
@[simp] theorem State.putFlags_statLine (s : State) (z n h c : Bool) : (s.putFlags z n h c).statLine = s.statLine := rfl
@[simp] theorem State.putFlags_framebuffer (s : State) (z n h c : Bool) : (s.putFlags z n h c).framebuffer = s.framebuffer := rfl
@[simp] theorem State.putFlags_frameCount (s : State) (z n h c : Bool) : (s.putFlags z n h c).frameCount = s.frameCount := rfl
@[simp] theorem State.putFlags_presented (s : State) (z n h c : Bool) : (s.putFlags z n h c).presented = s.presented := rfl
@[simp] theorem State.putFlags_serialOut (s : State) (z n h c : Bool) : (s.putFlags z n h c).serialOut = s.serialOut := rfl
@[simp] theorem State.putFlags_cycles (s : State) (z n h c : Bool) : (s.putFlags z n h c).cycles = s.cycles := rfl
@[simp] theorem State.putFlags_cfg (s : State) (z n h c : Bool) : (s.putFlags z n h c).cfg = s.cfg := rfl

@[simp] theorem State.setCell_a (s : State) (x : Nat) (v : Byte) : (s.setCell x v).a = s.a := rfl
@[simp] theorem State.setCell_f (s : State) (x : Nat) (v : Byte) : (s.setCell x v).f = s.f := rfl
@[simp] theorem State.setCell_b (s : State) (x : Nat) (v : Byte) : (s.setCell x v).b = s.b := rfl
@[simp] theorem State.setCell_c (s : State) (x : Nat) (v : Byte) : (s.setCell x v).c = s.c := rfl
@[simp] theorem State.setCell_d (s : State) (x : Nat) (v : Byte) : (s.setCell x v).d = s.d := rfl
@[simp] theorem State.setCell_e (s : State) (x : Nat) (v : Byte) : (s.setCell x v).e = s.e := rfl
@[simp] theorem State.setCell_h (s : State) (x : Nat) (v : Byte) : (s.setCell x v).h = s.h := rfl
@[simp] theorem State.setCell_l (s : State) (x : Nat) (v : Byte) : (s.setCell x v).l = s.l := rfl
@[simp] theorem State.setCell_sp (s : State) (x : Nat) (v : Byte) : (s.setCell x v).sp = s.sp := rfl
@[simp] theorem State.setCell_pc (s : State) (x : Nat) (v : Byte) : (s.setCell x v).pc = s.pc := rfl
@[simp] theorem State.setCell_ime (s : State) (x : Nat) (v : Byte) : (s.setCell x v).ime = s.ime := rfl
@[simp] theorem State.setCell_halted (s : State) (x : Nat) (v : Byte) : (s.setCell x v).halted = s.halted := rfl
@[simp] theorem State.setCell_stopped (s : State) (x : Nat) (v : Byte) : (s.setCell x v).stopped = s.stopped := rfl
@[simp] theorem State.setCell_eiPending (s : State) (x : Nat) (v : Byte) : (s.setCell x v).eiPending = s.eiPending := rfl
@[simp] theorem State.setCell_haltBug (s : State) (x : Nat) (v : Byte) : (s.setCell x v).haltBug = s.haltBug := rfl
@[simp] theorem State.setCell_fault (s : State) (x : Nat) (v : Byte) : (s.setCell x v).fault = s.fault := rfl
@[simp] theorem State.setCell_mem (s : State) (x : Nat) (v : Byte) : (s.setCell x v).mem = s.mem.write x v := rfl
@[simp] theorem State.setCell_bootRom (s : State) (x : Nat) (v : Byte) : (s.setCell x v).bootRom = s.bootRom := rfl
@[simp] theorem State.setCell_rom (s : State) (x : Nat) (v : Byte) : (s.setCell x v).rom = s.rom := rfl
@[simp] theorem State.setCell_mbc1 (s : State) (x : Nat) (v : Byte) : (s.setCell x v).mbc1 = s.mbc1 := rfl
@[simp] theorem State.setCell_romBank (s : State) (x : Nat) (v : Byte) : (s.setCell x v).romBank = s.romBank := rfl
@[simp] theorem State.setCell_div (s : State) (x : Nat) (v : Byte) : (s.setCell x v).div = s.div := rfl
@[simp] theorem State.setCell_buttons (s : State) (x : Nat) (v : Byte) : (s.setCell x v).buttons = s.buttons := rfl
@[simp] theorem State.setCell_dot (s : State) (x : Nat) (v : Byte) : (s.setCell x v).dot = s.dot := rfl
@[simp] theorem State.setCell_line (s : State) (x : Nat) (v : Byte) : (s.setCell x v).line = s.line := rfl
@[simp] theorem State.setCell_windowLine (s : State) (x : Nat) (v : Byte) : (s.setCell x v).windowLine = s.windowLine := rfl
@[simp] theorem State.setCell_statLine (s : State) (x : Nat) (v : Byte) : (s.setCell x v).statLine = s.statLine := rfl
@[simp] theorem State.setCell_framebuffer (s : State) (x : Nat) (v : Byte) : (s.setCell x v).framebuffer = s.framebuffer := rfl
@[simp] theorem State.setCell_frameCount (s : State) (x : Nat) (v : Byte) : (s.setCell x v).frameCount = s.frameCount := rfl
@[simp] theorem State.setCell_presented (s : State) (x : Nat) (v : Byte) : (s.setCell x v).presented = s.presented := rfl
@[simp] theorem State.setCell_serialOut (s : State) (x : Nat) (v : Byte) : (s.setCell x v).serialOut = s.serialOut := rfl
@[simp] theorem State.setCell_cycles (s : State) (x : Nat) (v : Byte) : (s.setCell x v).cycles = s.cycles := rfl
@[simp] theorem State.setCell_cfg (s : State) (x : Nat) (v : Byte) : (s.setCell x v).cfg = s.cfg := rfl

@[simp] theorem pending_def (s : State) : pending s = s.cell addrIF &&& s.cell addrIE &&& 0x1F := rfl

theorem State.cell_def (s : State) (x : Nat) : s.cell x = s.mem.read x := rfl

/-- All that `oamDmaByte` can change. -/
theorem oamDmaByte_only (v : Byte) (s : State) (i : Nat) :
    ∃ m', oamDmaByte v s i = { s with mem := m' } := by
  exact ⟨_, rfl⟩

@[simp] theorem oamDmaByte_a (v : Byte) (s : State) (i : Nat) : (oamDmaByte v s i).a = s.a := by
  obtain ⟨_, h⟩ := oamDmaByte_only v s i; rw [h]
@[simp] theorem oamDmaByte_f (v : Byte) (s : State) (i : Nat) : (oamDmaByte v s i).f = s.f := by
  obtain ⟨_, h⟩ := oamDmaByte_only v s i; rw [h]
@[simp] theorem oamDmaByte_b (v : Byte) (s : State) (i : Nat) : (oamDmaByte v s i).b = s.b := by
  obtain ⟨_, h⟩ := oamDmaByte_only v s i; rw [h]
@[simp] theorem oamDmaByte_c (v : Byte) (s : State) (i : Nat) : (oamDmaByte v s i).c = s.c := by
  obtain ⟨_, h⟩ := oamDmaByte_only v s i; rw [h]
@[simp] theorem oamDmaByte_d (v : Byte) (s : State) (i : Nat) : (oamDmaByte v s i).d = s.d := by
  obtain ⟨_, h⟩ := oamDmaByte_only v s i; rw [h]
@[simp] theorem oamDmaByte_e (v : Byte) (s : State) (i : Nat) : (oamDmaByte v s i).e = s.e := by
  obtain ⟨_, h⟩ := oamDmaByte_only v s i; rw [h]
@[simp] theorem oamDmaByte_h (v : Byte) (s : State) (i : Nat) : (oamDmaByte v s i).h = s.h := by
  obtain ⟨_, h⟩ := oamDmaByte_only v s i; rw [h]
@[simp] theorem oamDmaByte_l (v : Byte) (s : State) (i : Nat) : (oamDmaByte v s i).l = s.l := by
  obtain ⟨_, h⟩ := oamDmaByte_only v s i; rw [h]
@[simp] theorem oamDmaByte_sp (v : Byte) (s : State) (i : Nat) : (oamDmaByte v s i).sp = s.sp := by
  obtain ⟨_, h⟩ := oamDmaByte_only v s i; rw [h]
@[simp] theorem oamDmaByte_pc (v : Byte) (s : State) (i : Nat) : (oamDmaByte v s i).pc = s.pc := by
  obtain ⟨_, h⟩ := oamDmaByte_only v s i; rw [h]
@[simp] theorem oamDmaByte_ime (v : Byte) (s : State) (i : Nat) : (oamDmaByte v s i).ime = s.ime := by
  obtain ⟨_, h⟩ := oamDmaByte_only v s i; rw [h]
@[simp] theorem oamDmaByte_halted (v : Byte) (s : State) (i : Nat) : (oamDmaByte v s i).halted = s.halted := by
  obtain ⟨_, h⟩ := oamDmaByte_only v s i; rw [h]
@[simp] theorem oamDmaByte_stopped (v : Byte) (s : State) (i : Nat) : (oamDmaByte v s i).stopped = s.stopped := by
  obtain ⟨_, h⟩ := oamDmaByte_only v s i; rw [h]
@[simp] theorem oamDmaByte_eiPending (v : Byte) (s : State) (i : Nat) : (oamDmaByte v s i).eiPending = s.eiPending := by
  obtain ⟨_, h⟩ := oamDmaByte_only v s i; rw [h]
@[simp] theorem oamDmaByte_haltBug (v : Byte) (s : State) (i : Nat) : (oamDmaByte v s i).haltBug = s.haltBug := by
  obtain ⟨_, h⟩ := oamDmaByte_only v s i; rw [h]
@[simp] theorem oamDmaByte_fault (v : Byte) (s : State) (i : Nat) : (oamDmaByte v s i).fault = s.fault := by
  obtain ⟨_, h⟩ := oamDmaByte_only v s i; rw [h]
@[simp] theorem oamDmaByte_bootRom (v : Byte) (s : State) (i : Nat) : (oamDmaByte v s i).bootRom = s.bootRom := by
  obtain ⟨_, h⟩ := oamDmaByte_only v s i; rw [h]
@[simp] theorem oamDmaByte_rom (v : Byte) (s : State) (i : Nat) : (oamDmaByte v s i).rom = s.rom := by
  obtain ⟨_, h⟩ := oamDmaByte_only v s i; rw [h]
@[simp] theorem oamDmaByte_mbc1 (v : Byte) (s : State) (i : Nat) : (oamDmaByte v s i).mbc1 = s.mbc1 := by
  obtain ⟨_, h⟩ := oamDmaByte_only v s i; rw [h]
@[simp] theorem oamDmaByte_romBank (v : Byte) (s : State) (i : Nat) : (oamDmaByte v s i).romBank = s.romBank := by
  obtain ⟨_, h⟩ := oamDmaByte_only v s i; rw [h]
@[simp] theorem oamDmaByte_div (v : Byte) (s : State) (i : Nat) : (oamDmaByte v s i).div = s.div := by
  obtain ⟨_, h⟩ := oamDmaByte_only v s i; rw [h]
@[simp] theorem oamDmaByte_buttons (v : Byte) (s : State) (i : Nat) : (oamDmaByte v s i).buttons = s.buttons := by
  obtain ⟨_, h⟩ := oamDmaByte_only v s i; rw [h]
@[simp] theorem oamDmaByte_dot (v : Byte) (s : State) (i : Nat) : (oamDmaByte v s i).dot = s.dot := by
  obtain ⟨_, h⟩ := oamDmaByte_only v s i; rw [h]
@[simp] theorem oamDmaByte_line (v : Byte) (s : State) (i : Nat) : (oamDmaByte v s i).line = s.line := by
  obtain ⟨_, h⟩ := oamDmaByte_only v s i; rw [h]
@[simp] theorem oamDmaByte_windowLine (v : Byte) (s : State) (i : Nat) : (oamDmaByte v s i).windowLine = s.windowLine := by
  obtain ⟨_, h⟩ := oamDmaByte_only v s i; rw [h]
@[simp] theorem oamDmaByte_statLine (v : Byte) (s : State) (i : Nat) : (oamDmaByte v s i).statLine = s.statLine := by
  obtain ⟨_, h⟩ := oamDmaByte_only v s i; rw [h]
@[simp] theorem oamDmaByte_framebuffer (v : Byte) (s : State) (i : Nat) : (oamDmaByte v s i).framebuffer = s.framebuffer := by
  obtain ⟨_, h⟩ := oamDmaByte_only v s i; rw [h]
@[simp] theorem oamDmaByte_frameCount (v : Byte) (s : State) (i : Nat) : (oamDmaByte v s i).frameCount = s.frameCount := by
  obtain ⟨_, h⟩ := oamDmaByte_only v s i; rw [h]
@[simp] theorem oamDmaByte_presented (v : Byte) (s : State) (i : Nat) : (oamDmaByte v s i).presented = s.presented := by
  obtain ⟨_, h⟩ := oamDmaByte_only v s i; rw [h]
@[simp] theorem oamDmaByte_serialOut (v : Byte) (s : State) (i : Nat) : (oamDmaByte v s i).serialOut = s.serialOut := by
  obtain ⟨_, h⟩ := oamDmaByte_only v s i; rw [h]
@[simp] theorem oamDmaByte_cycles (v : Byte) (s : State) (i : Nat) : (oamDmaByte v s i).cycles = s.cycles := by
  obtain ⟨_, h⟩ := oamDmaByte_only v s i; rw [h]
@[simp] theorem oamDmaByte_cfg (v : Byte) (s : State) (i : Nat) : (oamDmaByte v s i).cfg = s.cfg := by
  obtain ⟨_, h⟩ := oamDmaByte_only v s i; rw [h]

/-- A fold of steps that change only memory changes only memory. -/
theorem foldl_mem_only {β : Type} (g : State → β → State) (hg : ∀ s i, ∃ m', g s i = { s with mem := m' })
    (xs : List β) (s : State) : ∃ m', xs.foldl g s = { s with mem := m' } := by
  induction xs generalizing s with
  | nil => exact ⟨s.mem, rfl⟩
  | cons x xs ih =>
    obtain ⟨m1, h1⟩ := hg s x
    obtain ⟨m2, h2⟩ := ih (g s x)
    exact ⟨m2, by rw [List.foldl_cons, h2, h1]⟩

/-- All that `oamDma` can change. -/
theorem oamDma_only (v : Byte) (s : State) :
    ∃ m', oamDma v s = { s with mem := m' } := by
  exact foldl_mem_only (oamDmaByte v) (oamDmaByte_only v) _ s

@[simp] theorem oamDma_a (v : Byte) (s : State) : (oamDma v s).a = s.a := by
  obtain ⟨_, h⟩ := oamDma_only v s; rw [h]
@[simp] theorem oamDma_f (v : Byte) (s : State) : (oamDma v s).f = s.f := by
  obtain ⟨_, h⟩ := oamDma_only v s; rw [h]
@[simp] theorem oamDma_b (v : Byte) (s : State) : (oamDma v s).b = s.b := by
  obtain ⟨_, h⟩ := oamDma_only v s; rw [h]
@[simp] theorem oamDma_c (v : Byte) (s : State) : (oamDma v s).c = s.c := by
  obtain ⟨_, h⟩ := oamDma_only v s; rw [h]
@[simp] theorem oamDma_d (v : Byte) (s : State) : (oamDma v s).d = s.d := by
  obtain ⟨_, h⟩ := oamDma_only v s; rw [h]
@[simp] theorem oamDma_e (v : Byte) (s : State) : (oamDma v s).e = s.e := by
  obtain ⟨_, h⟩ := oamDma_only v s; rw [h]
@[simp] theorem oamDma_h (v : Byte) (s : State) : (oamDma v s).h = s.h := by
  obtain ⟨_, h⟩ := oamDma_only v s; rw [h]
@[simp] theorem oamDma_l (v : Byte) (s : State) : (oamDma v s).l = s.l := by
  obtain ⟨_, h⟩ := oamDma_only v s; rw [h]
@[simp] theorem oamDma_sp (v : Byte) (s : State) : (oamDma v s).sp = s.sp := by
  obtain ⟨_, h⟩ := oamDma_only v s; rw [h]
@[simp] theorem oamDma_pc (v : Byte) (s : State) : (oamDma v s).pc = s.pc := by
  obtain ⟨_, h⟩ := oamDma_only v s; rw [h]
@[simp] theorem oamDma_ime (v : Byte) (s : State) : (oamDma v s).ime = s.ime := by
  obtain ⟨_, h⟩ := oamDma_only v s; rw [h]
@[simp] theorem oamDma_halted (v : Byte) (s : State) : (oamDma v s).halted = s.halted := by
  obtain ⟨_, h⟩ := oamDma_only v s; rw [h]
@[simp] theorem oamDma_stopped (v : Byte) (s : State) : (oamDma v s).stopped = s.stopped := by
  obtain ⟨_, h⟩ := oamDma_only v s; rw [h]
@[simp] theorem oamDma_eiPending (v : Byte) (s : State) : (oamDma v s).eiPending = s.eiPending := by
  obtain ⟨_, h⟩ := oamDma_only v s; rw [h]
@[simp] theorem oamDma_haltBug (v : Byte) (s : State) : (oamDma v s).haltBug = s.haltBug := by
  obtain ⟨_, h⟩ := oamDma_only v s; rw [h]
@[simp] theorem oamDma_fault (v : Byte) (s : State) : (oamDma v s).fault = s.fault := by
  obtain ⟨_, h⟩ := oamDma_only v s; rw [h]
@[simp] theorem oamDma_bootRom (v : Byte) (s : State) : (oamDma v s).bootRom = s.bootRom := by
  obtain ⟨_, h⟩ := oamDma_only v s; rw [h]
@[simp] theorem oamDma_rom (v : Byte) (s : State) : (oamDma v s).rom = s.rom := by
  obtain ⟨_, h⟩ := oamDma_only v s; rw [h]
@[simp] theorem oamDma_mbc1 (v : Byte) (s : State) : (oamDma v s).mbc1 = s.mbc1 := by
  obtain ⟨_, h⟩ := oamDma_only v s; rw [h]
@[simp] theorem oamDma_romBank (v : Byte) (s : State) : (oamDma v s).romBank = s.romBank := by
  obtain ⟨_, h⟩ := oamDma_only v s; rw [h]
@[simp] theorem oamDma_div (v : Byte) (s : State) : (oamDma v s).div = s.div := by
  obtain ⟨_, h⟩ := oamDma_only v s; rw [h]
@[simp] theorem oamDma_buttons (v : Byte) (s : State) : (oamDma v s).buttons = s.buttons := by
  obtain ⟨_, h⟩ := oamDma_only v s; rw [h]
@[simp] theorem oamDma_dot (v : Byte) (s : State) : (oamDma v s).dot = s.dot := by
  obtain ⟨_, h⟩ := oamDma_only v s; rw [h]
@[simp] theorem oamDma_line (v : Byte) (s : State) : (oamDma v s).line = s.line := by
  obtain ⟨_, h⟩ := oamDma_only v s; rw [h]
@[simp] theorem oamDma_windowLine (v : Byte) (s : State) : (oamDma v s).windowLine = s.windowLine := by
  obtain ⟨_, h⟩ := oamDma_only v s; rw [h]
@[simp] theorem oamDma_statLine (v : Byte) (s : State) : (oamDma v s).statLine = s.statLine := by
  obtain ⟨_, h⟩ := oamDma_only v s; rw [h]
@[simp] theorem oamDma_framebuffer (v : Byte) (s : State) : (oamDma v s).framebuffer = s.framebuffer := by
  obtain ⟨_, h⟩ := oamDma_only v s; rw [h]
@[simp] theorem oamDma_frameCount (v : Byte) (s : State) : (oamDma v s).frameCount = s.frameCount := by
  obtain ⟨_, h⟩ := oamDma_only v s; rw [h]
@[simp] theorem oamDma_presented (v : Byte) (s : State) : (oamDma v s).presented = s.presented := by
  obtain ⟨_, h⟩ := oamDma_only v s; rw [h]
@[simp] theorem oamDma_serialOut (v : Byte) (s : State) : (oamDma v s).serialOut = s.serialOut := by
  obtain ⟨_, h⟩ := oamDma_only v s; rw [h]
@[simp] theorem oamDma_cycles (v : Byte) (s : State) : (oamDma v s).cycles = s.cycles := by
  obtain ⟨_, h⟩ := oamDma_only v s; rw [h]
@[simp] theorem oamDma_cfg (v : Byte) (s : State) : (oamDma v s).cfg = s.cfg := by
  obtain ⟨_, h⟩ := oamDma_only v s; rw [h]

/-- All that `requestInterrupt` can change. -/
theorem requestInterrupt_only (i : Nat) (s : State) :
    ∃ m', requestInterrupt i s = { s with mem := m' } := by
  exact ⟨_, rfl⟩

@[simp] theorem requestInterrupt_a (i : Nat) (s : State) : (requestInterrupt i s).a = s.a := by
  obtain ⟨_, h⟩ := requestInterrupt_only i s; rw [h]
@[simp] theorem requestInterrupt_f (i : Nat) (s : State) : (requestInterrupt i s).f = s.f := by
  obtain ⟨_, h⟩ := requestInterrupt_only i s; rw [h]
@[simp] theorem requestInterrupt_b (i : Nat) (s : State) : (requestInterrupt i s).b = s.b := by
  obtain ⟨_, h⟩ := requestInterrupt_only i s; rw [h]
@[simp] theorem requestInterrupt_c (i : Nat) (s : State) : (requestInterrupt i s).c = s.c := by
  obtain ⟨_, h⟩ := requestInterrupt_only i s; rw [h]
@[simp] theorem requestInterrupt_d (i : Nat) (s : State) : (requestInterrupt i s).d = s.d := by
  obtain ⟨_, h⟩ := requestInterrupt_only i s; rw [h]
@[simp] theorem requestInterrupt_e (i : Nat) (s : State) : (requestInterrupt i s).e = s.e := by
  obtain ⟨_, h⟩ := requestInterrupt_only i s; rw [h]
@[simp] theorem requestInterrupt_h (i : Nat) (s : State) : (requestInterrupt i s).h = s.h := by
  obtain ⟨_, h⟩ := requestInterrupt_only i s; rw [h]
@[simp] theorem requestInterrupt_l (i : Nat) (s : State) : (requestInterrupt i s).l = s.l := by
  obtain ⟨_, h⟩ := requestInterrupt_only i s; rw [h]
@[simp] theorem requestInterrupt_sp (i : Nat) (s : State) : (requestInterrupt i s).sp = s.sp := by
  obtain ⟨_, h⟩ := requestInterrupt_only i s; rw [h]
@[simp] theorem requestInterrupt_pc (i : Nat) (s : State) : (requestInterrupt i s).pc = s.pc := by
  obtain ⟨_, h⟩ := requestInterrupt_only i s; rw [h]
@[simp] theorem requestInterrupt_ime (i : Nat) (s : State) : (requestInterrupt i s).ime = s.ime := by
  obtain ⟨_, h⟩ := requestInterrupt_only i s; rw [h]
@[simp] theorem requestInterrupt_halted (i : Nat) (s : State) : (requestInterrupt i s).halted = s.halted := by
  obtain ⟨_, h⟩ := requestInterrupt_only i s; rw [h]
@[simp] theorem requestInterrupt_stopped (i : Nat) (s : State) : (requestInterrupt i s).stopped = s.stopped := by
  obtain ⟨_, h⟩ := requestInterrupt_only i s; rw [h]
@[simp] theorem requestInterrupt_eiPending (i : Nat) (s : State) : (requestInterrupt i s).eiPending = s.eiPending := by
  obtain ⟨_, h⟩ := requestInterrupt_only i s; rw [h]
@[simp] theorem requestInterrupt_haltBug (i : Nat) (s : State) : (requestInterrupt i s).haltBug = s.haltBug := by
  obtain ⟨_, h⟩ := requestInterrupt_only i s; rw [h]
@[simp] theorem requestInterrupt_fault (i : Nat) (s : State) : (requestInterrupt i s).fault = s.fault := by
  obtain ⟨_, h⟩ := requestInterrupt_only i s; rw [h]
@[simp] theorem requestInterrupt_bootRom (i : Nat) (s : State) : (requestInterrupt i s).bootRom = s.bootRom := by
  obtain ⟨_, h⟩ := requestInterrupt_only i s; rw [h]
@[simp] theorem requestInterrupt_rom (i : Nat) (s : State) : (requestInterrupt i s).rom = s.rom := by
  obtain ⟨_, h⟩ := requestInterrupt_only i s; rw [h]
@[simp] theorem requestInterrupt_mbc1 (i : Nat) (s : State) : (requestInterrupt i s).mbc1 = s.mbc1 := by
  obtain ⟨_, h⟩ := requestInterrupt_only i s; rw [h]
@[simp] theorem requestInterrupt_romBank (i : Nat) (s : State) : (requestInterrupt i s).romBank = s.romBank := by
  obtain ⟨_, h⟩ := requestInterrupt_only i s; rw [h]
@[simp] theorem requestInterrupt_div (i : Nat) (s : State) : (requestInterrupt i s).div = s.div := by
  obtain ⟨_, h⟩ := requestInterrupt_only i s; rw [h]
@[simp] theorem requestInterrupt_buttons (i : Nat) (s : State) : (requestInterrupt i s).buttons = s.buttons := by
  obtain ⟨_, h⟩ := requestInterrupt_only i s; rw [h]
@[simp] theorem requestInterrupt_dot (i : Nat) (s : State) : (requestInterrupt i s).dot = s.dot := by
  obtain ⟨_, h⟩ := requestInterrupt_only i s; rw [h]
@[simp] theorem requestInterrupt_line (i : Nat) (s : State) : (requestInterrupt i s).line = s.line := by
  obtain ⟨_, h⟩ := requestInterrupt_only i s; rw [h]
@[simp] theorem requestInterrupt_windowLine (i : Nat) (s : State) : (requestInterrupt i s).windowLine = s.windowLine := by
  obtain ⟨_, h⟩ := requestInterrupt_only i s; rw [h]
@[simp] theorem requestInterrupt_statLine (i : Nat) (s : State) : (requestInterrupt i s).statLine = s.statLine := by
  obtain ⟨_, h⟩ := requestInterrupt_only i s; rw [h]
@[simp] theorem requestInterrupt_framebuffer (i : Nat) (s : State) : (requestInterrupt i s).framebuffer = s.framebuffer := by
  obtain ⟨_, h⟩ := requestInterrupt_only i s; rw [h]
@[simp] theorem requestInterrupt_frameCount (i : Nat) (s : State) : (requestInterrupt i s).frameCount = s.frameCount := by
  obtain ⟨_, h⟩ := requestInterrupt_only i s; rw [h]
@[simp] theorem requestInterrupt_presented (i : Nat) (s : State) : (requestInterrupt i s).presented = s.presented := by
  obtain ⟨_, h⟩ := requestInterrupt_only i s; rw [h]
@[simp] theorem requestInterrupt_serialOut (i : Nat) (s : State) : (requestInterrupt i s).serialOut = s.serialOut := by
  obtain ⟨_, h⟩ := requestInterrupt_only i s; rw [h]
@[simp] theorem requestInterrupt_cycles (i : Nat) (s : State) : (requestInterrupt i s).cycles = s.cycles := by
  obtain ⟨_, h⟩ := requestInterrupt_only i s; rw [h]
@[simp] theorem requestInterrupt_cfg (i : Nat) (s : State) : (requestInterrupt i s).cfg = s.cfg := by
  obtain ⟨_, h⟩ := requestInterrupt_only i s; rw [h]

/-- All that `writeByte` can change. -/
theorem writeByte_only (x : Word) (v : Byte) (s : State) :
    ∃ m' k' dv' o', writeByte x v s = { s with mem := m', romBank := k', div := dv', serialOut := o' } := by
  unfold writeByte
  split
  · split
    · exact ⟨_, _, _, _, rfl⟩
    · exact ⟨_, _, _, _, rfl⟩
  · split
    · exact ⟨_, _, _, _, rfl⟩
    · split
      · exact ⟨_, _, _, _, rfl⟩
      · split
        · obtain ⟨m, h⟩ := oamDma_only v (s.setCell addrDMA v)
          exact ⟨m, s.romBank, s.div, s.serialOut, by rw [h]; rfl⟩
        · split
          · exact ⟨_, _, _, _, rfl⟩
          · exact ⟨_, _, _, _, rfl⟩

@[simp] theorem writeByte_a (x : Word) (v : Byte) (s : State) : (writeByte x v s).a = s.a := by
  obtain ⟨_, _, _, _, h⟩ := writeByte_only x v s; rw [h]
@[simp] theorem writeByte_f (x : Word) (v : Byte) (s : State) : (writeByte x v s).f = s.f := by
  obtain ⟨_, _, _, _, h⟩ := writeByte_only x v s; rw [h]
@[simp] theorem writeByte_b (x : Word) (v : Byte) (s : State) : (writeByte x v s).b = s.b := by
  obtain ⟨_, _, _, _, h⟩ := writeByte_only x v s; rw [h]
@[simp] theorem writeByte_c (x : Word) (v : Byte) (s : State) : (writeByte x v s).c = s.c := by
  obtain ⟨_, _, _, _, h⟩ := writeByte_only x v s; rw [h]
@[simp] theorem writeByte_d (x : Word) (v : Byte) (s : State) : (writeByte x v s).d = s.d := by
  obtain ⟨_, _, _, _, h⟩ := writeByte_only x v s; rw [h]
@[simp] theorem writeByte_e (x : Word) (v : Byte) (s : State) : (writeByte x v s).e = s.e := by
  obtain ⟨_, _, _, _, h⟩ := writeByte_only x v s; rw [h]
@[simp] theorem writeByte_h (x : Word) (v : Byte) (s : State) : (writeByte x v s).h = s.h := by
  obtain ⟨_, _, _, _, h⟩ := writeByte_only x v s; rw [h]
@[simp] theorem writeByte_l (x : Word) (v : Byte) (s : State) : (writeByte x v s).l = s.l := by
  obtain ⟨_, _, _, _, h⟩ := writeByte_only x v s; rw [h]
@[simp] theorem writeByte_sp (x : Word) (v : Byte) (s : State) : (writeByte x v s).sp = s.sp := by
  obtain ⟨_, _, _, _, h⟩ := writeByte_only x v s; rw [h]
@[simp] theorem writeByte_pc (x : Word) (v : Byte) (s : State) : (writeByte x v s).pc = s.pc := by
  obtain ⟨_, _, _, _, h⟩ := writeByte_only x v s; rw [h]
@[simp] theorem writeByte_ime (x : Word) (v : Byte) (s : State) : (writeByte x v s).ime = s.ime := by
  obtain ⟨_, _, _, _, h⟩ := writeByte_only x v s; rw [h]
@[simp] theorem writeByte_halted (x : Word) (v : Byte) (s : State) : (writeByte x v s).halted = s.halted := by
  obtain ⟨_, _, _, _, h⟩ := writeByte_only x v s; rw [h]
@[simp] theorem writeByte_stopped (x : Word) (v : Byte) (s : State) : (writeByte x v s).stopped = s.stopped := by
  obtain ⟨_, _, _, _, h⟩ := writeByte_only x v s; rw [h]
@[simp] theorem writeByte_eiPending (x : Word) (v : Byte) (s : State) : (writeByte x v s).eiPending = s.eiPending := by
  obtain ⟨_, _, _, _, h⟩ := writeByte_only x v s; rw [h]
@[simp] theorem writeByte_haltBug (x : Word) (v : Byte) (s : State) : (writeByte x v s).haltBug = s.haltBug := by
  obtain ⟨_, _, _, _, h⟩ := writeByte_only x v s; rw [h]
@[simp] theorem writeByte_fault (x : Word) (v : Byte) (s : State) : (writeByte x v s).fault = s.fault := by
  obtain ⟨_, _, _, _, h⟩ := writeByte_only x v s; rw [h]
@[simp] theorem writeByte_bootRom (x : Word) (v : Byte) (s : State) : (writeByte x v s).bootRom = s.bootRom := by
  obtain ⟨_, _, _, _, h⟩ := writeByte_only x v s; rw [h]
@[simp] theorem writeByte_rom (x : Word) (v : Byte) (s : State) : (writeByte x v s).rom = s.rom := by
  obtain ⟨_, _, _, _, h⟩ := writeByte_only x v s; rw [h]
@[simp] theorem writeByte_mbc1 (x : Word) (v : Byte) (s : State) : (writeByte x v s).mbc1 = s.mbc1 := by
  obtain ⟨_, _, _, _, h⟩ := writeByte_only x v s; rw [h]
@[simp] theorem writeByte_buttons (x : Word) (v : Byte) (s : State) : (writeByte x v s).buttons = s.buttons := by
  obtain ⟨_, _, _, _, h⟩ := writeByte_only x v s; rw [h]
@[simp] theorem writeByte_dot (x : Word) (v : Byte) (s : State) : (writeByte x v s).dot = s.dot := by
  obtain ⟨_, _, _, _, h⟩ := writeByte_only x v s; rw [h]
@[simp] theorem writeByte_line (x : Word) (v : Byte) (s : State) : (writeByte x v s).line = s.line := by
  obtain ⟨_, _, _, _, h⟩ := writeByte_only x v s; rw [h]
@[simp] theorem writeByte_windowLine (x : Word) (v : Byte) (s : State) : (writeByte x v s).windowLine = s.windowLine := by
  obtain ⟨_, _, _, _, h⟩ := writeByte_only x v s; rw [h]
@[simp] theorem writeByte_statLine (x : Word) (v : Byte) (s : State) : (writeByte x v s).statLine = s.statLine := by
  obtain ⟨_, _, _, _, h⟩ := writeByte_only x v s; rw [h]
@[simp] theorem writeByte_framebuffer (x : Word) (v : Byte) (s : State) : (writeByte x v s).framebuffer = s.framebuffer := by
  obtain ⟨_, _, _, _, h⟩ := writeByte_only x v s; rw [h]
@[simp] theorem writeByte_frameCount (x : Word) (v : Byte) (s : State) : (writeByte x v s).frameCount = s.frameCount := by
  obtain ⟨_, _, _, _, h⟩ := writeByte_only x v s; rw [h]
@[simp] theorem writeByte_presented (x : Word) (v : Byte) (s : State) : (writeByte x v s).presented = s.presented := by
  obtain ⟨_, _, _, _, h⟩ := writeByte_only x v s; rw [h]
@[simp] theorem writeByte_cycles (x : Word) (v : Byte) (s : State) : (writeByte x v s).cycles = s.cycles := by
  obtain ⟨_, _, _, _, h⟩ := writeByte_only x v s; rw [h]
@[simp] theorem writeByte_cfg (x : Word) (v : Byte) (s : State) : (writeByte x v s).cfg = s.cfg := by
  obtain ⟨_, _, _, _, h⟩ := writeByte_only x v s; rw [h]

/-- All that `writeWord` can change. -/
theorem writeWord_only (x v : Word) (s : State) :
    ∃ m' k' dv' o', writeWord x v s = { s with mem := m', romBank := k', div := dv', serialOut := o' } := by
  obtain ⟨_, _, _, _, h1⟩ := writeByte_only x (loByte v) s
  obtain ⟨_, _, _, _, h2⟩ := writeByte_only (x + 1) (hiByte v) (writeByte x (loByte v) s)
  exact ⟨_, _, _, _, by unfold writeWord; rw [h2, h1]⟩

@[simp] theorem writeWord_a (x v : Word) (s : State) : (writeWord x v s).a = s.a := by
  obtain ⟨_, _, _, _, h⟩ := writeWord_only x v s; rw [h]
@[simp] theorem writeWord_f (x v : Word) (s : State) : (writeWord x v s).f = s.f := by
  obtain ⟨_, _, _, _, h⟩ := writeWord_only x v s; rw [h]
@[simp] theorem writeWord_b (x v : Word) (s : State) : (writeWord x v s).b = s.b := by
  obtain ⟨_, _, _, _, h⟩ := writeWord_only x v s; rw [h]
@[simp] theorem writeWord_c (x v : Word) (s : State) : (writeWord x v s).c = s.c := by
  obtain ⟨_, _, _, _, h⟩ := writeWord_only x v s; rw [h]
@[simp] theorem writeWord_d (x v : Word) (s : State) : (writeWord x v s).d = s.d := by
  obtain ⟨_, _, _, _, h⟩ := writeWord_only x v s; rw [h]
@[simp] theorem writeWord_e (x v : Word) (s : State) : (writeWord x v s).e = s.e := by
  obtain ⟨_, _, _, _, h⟩ := writeWord_only x v s; rw [h]
@[simp] theorem writeWord_h (x v : Word) (s : State) : (writeWord x v s).h = s.h := by
  obtain ⟨_, _, _, _, h⟩ := writeWord_only x v s; rw [h]
@[simp] theorem writeWord_l (x v : Word) (s : State) : (writeWord x v s).l = s.l := by
  obtain ⟨_, _, _, _, h⟩ := writeWord_only x v s; rw [h]
@[simp] theorem writeWord_sp (x v : Word) (s : State) : (writeWord x v s).sp = s.sp := by
  obtain ⟨_, _, _, _, h⟩ := writeWord_only x v s; rw [h]
@[simp] theorem writeWord_pc (x v : Word) (s : State) : (writeWord x v s).pc = s.pc := by
  obtain ⟨_, _, _, _, h⟩ := writeWord_only x v s; rw [h]
@[simp] theorem writeWord_ime (x v : Word) (s : State) : (writeWord x v s).ime = s.ime := by
  obtain ⟨_, _, _, _, h⟩ := writeWord_only x v s; rw [h]
@[simp] theorem writeWord_halted (x v : Word) (s : State) : (writeWord x v s).halted = s.halted := by
  obtain ⟨_, _, _, _, h⟩ := writeWord_only x v s; rw [h]
@[simp] theorem writeWord_stopped (x v : Word) (s : State) : (writeWord x v s).stopped = s.stopped := by
  obtain ⟨_, _, _, _, h⟩ := writeWord_only x v s; rw [h]
@[simp] theorem writeWord_eiPending (x v : Word) (s : State) : (writeWord x v s).eiPending = s.eiPending := by
  obtain ⟨_, _, _, _, h⟩ := writeWord_only x v s; rw [h]
@[simp] theorem writeWord_haltBug (x v : Word) (s : State) : (writeWord x v s).haltBug = s.haltBug := by
  obtain ⟨_, _, _, _, h⟩ := writeWord_only x v s; rw [h]
@[simp] theorem writeWord_fault (x v : Word) (s : State) : (writeWord x v s).fault = s.fault := by
  obtain ⟨_, _, _, _, h⟩ := writeWord_only x v s; rw [h]
@[simp] theorem writeWord_bootRom (x v : Word) (s : State) : (writeWord x v s).bootRom = s.bootRom := by
  obtain ⟨_, _, _, _, h⟩ := writeWord_only x v s; rw [h]
@[simp] theorem writeWord_rom (x v : Word) (s : State) : (writeWord x v s).rom = s.rom := by
  obtain ⟨_, _, _, _, h⟩ := writeWord_only x v s; rw [h]
@[simp] theorem writeWord_mbc1 (x v : Word) (s : State) : (writeWord x v s).mbc1 = s.mbc1 := by
  obtain ⟨_, _, _, _, h⟩ := writeWord_only x v s; rw [h]
@[simp] theorem writeWord_buttons (x v : Word) (s : State) : (writeWord x v s).buttons = s.buttons := by
  obtain ⟨_, _, _, _, h⟩ := writeWord_only x v s; rw [h]
@[simp] theorem writeWord_dot (x v : Word) (s : State) : (writeWord x v s).dot = s.dot := by
  obtain ⟨_, _, _, _, h⟩ := writeWord_only x v s; rw [h]
@[simp] theorem writeWord_line (x v : Word) (s : State) : (writeWord x v s).line = s.line := by
  obtain ⟨_, _, _, _, h⟩ := writeWord_only x v s; rw [h]
@[simp] theorem writeWord_windowLine (x v : Word) (s : State) : (writeWord x v s).windowLine = s.windowLine := by
  obtain ⟨_, _, _, _, h⟩ := writeWord_only x v s; rw [h]
@[simp] theorem writeWord_statLine (x v : Word) (s : State) : (writeWord x v s).statLine = s.statLine := by
  obtain ⟨_, _, _, _, h⟩ := writeWord_only x v s; rw [h]
@[simp] theorem writeWord_framebuffer (x v : Word) (s : State) : (writeWord x v s).framebuffer = s.framebuffer := by
  obtain ⟨_, _, _, _, h⟩ := writeWord_only x v s; rw [h]
@[simp] theorem writeWord_frameCount (x v : Word) (s : State) : (writeWord x v s).frameCount = s.frameCount := by
  obtain ⟨_, _, _, _, h⟩ := writeWord_only x v s; rw [h]
@[simp] theorem writeWord_presented (x v : Word) (s : State) : (writeWord x v s).presented = s.presented := by
  obtain ⟨_, _, _, _, h⟩ := writeWord_only x v s; rw [h]
@[simp] theorem writeWord_cycles (x v : Word) (s : State) : (writeWord x v s).cycles = s.cycles := by
  obtain ⟨_, _, _, _, h⟩ := writeWord_only x v s; rw [h]
@[simp] theorem writeWord_cfg (x v : Word) (s : State) : (writeWord x v s).cfg = s.cfg := by
  obtain ⟨_, _, _, _, h⟩ := writeWord_only x v s; rw [h]

/-- All that `push16` can change. -/
theorem push16_only (v : Word) (s : State) :
    ∃ p' m' k' dv' o', push16 v s = { s with sp := p', mem := m', romBank := k', div := dv', serialOut := o' } := by
  obtain ⟨_, _, _, _, h1⟩ := writeByte_only (s.sp - 2 + 1) (hiByte v) { s with sp := s.sp - 2 }
  obtain ⟨_, _, _, _, h2⟩ := writeByte_only (s.sp - 2) (loByte v)
    (writeByte (s.sp - 2 + 1) (hiByte v) { s with sp := s.sp - 2 })
  exact ⟨_, _, _, _, _, by unfold push16; rw [h2, h1]⟩

@[simp] theorem push16_a (v : Word) (s : State) : (push16 v s).a = s.a := by
  obtain ⟨_, _, _, _, _, h⟩ := push16_only v s; rw [h]
@[simp] theorem push16_f (v : Word) (s : State) : (push16 v s).f = s.f := by
  obtain ⟨_, _, _, _, _, h⟩ := push16_only v s; rw [h]
@[simp] theorem push16_b (v : Word) (s : State) : (push16 v s).b = s.b := by
  obtain ⟨_, _, _, _, _, h⟩ := push16_only v s; rw [h]
@[simp] theorem push16_c (v : Word) (s : State) : (push16 v s).c = s.c := by
  obtain ⟨_, _, _, _, _, h⟩ := push16_only v s; rw [h]
@[simp] theorem push16_d (v : Word) (s : State) : (push16 v s).d = s.d := by
  obtain ⟨_, _, _, _, _, h⟩ := push16_only v s; rw [h]
@[simp] theorem push16_e (v : Word) (s : State) : (push16 v s).e = s.e := by
  obtain ⟨_, _, _, _, _, h⟩ := push16_only v s; rw [h]
@[simp] theorem push16_h (v : Word) (s : State) : (push16 v s).h = s.h := by
  obtain ⟨_, _, _, _, _, h⟩ := push16_only v s; rw [h]
@[simp] theorem push16_l (v : Word) (s : State) : (push16 v s).l = s.l := by
  obtain ⟨_, _, _, _, _, h⟩ := push16_only v s; rw [h]
@[simp] theorem push16_pc (v : Word) (s : State) : (push16 v s).pc = s.pc := by
  obtain ⟨_, _, _, _, _, h⟩ := push16_only v s; rw [h]
@[simp] theorem push16_ime (v : Word) (s : State) : (push16 v s).ime = s.ime := by
  obtain ⟨_, _, _, _, _, h⟩ := push16_only v s; rw [h]
@[simp] theorem push16_halted (v : Word) (s : State) : (push16 v s).halted = s.halted := by
  obtain ⟨_, _, _, _, _, h⟩ := push16_only v s; rw [h]
@[simp] theorem push16_stopped (v : Word) (s : State) : (push16 v s).stopped = s.stopped := by
  obtain ⟨_, _, _, _, _, h⟩ := push16_only v s; rw [h]
@[simp] theorem push16_eiPending (v : Word) (s : State) : (push16 v s).eiPending = s.eiPending := by
  obtain ⟨_, _, _, _, _, h⟩ := push16_only v s; rw [h]
@[simp] theorem push16_haltBug (v : Word) (s : State) : (push16 v s).haltBug = s.haltBug := by
  obtain ⟨_, _, _, _, _, h⟩ := push16_only v s; rw [h]
@[simp] theorem push16_fault (v : Word) (s : State) : (push16 v s).fault = s.fault := by
  obtain ⟨_, _, _, _, _, h⟩ := push16_only v s; rw [h]
@[simp] theorem push16_bootRom (v : Word) (s : State) : (push16 v s).bootRom = s.bootRom := by
  obtain ⟨_, _, _, _, _, h⟩ := push16_only v s; rw [h]
@[simp] theorem push16_rom (v : Word) (s : State) : (push16 v s).rom = s.rom := by
  obtain ⟨_, _, _, _, _, h⟩ := push16_only v s; rw [h]
@[simp] theorem push16_mbc1 (v : Word) (s : State) : (push16 v s).mbc1 = s.mbc1 := by
  obtain ⟨_, _, _, _, _, h⟩ := push16_only v s; rw [h]
@[simp] theorem push16_buttons (v : Word) (s : State) : (push16 v s).buttons = s.buttons := by
  obtain ⟨_, _, _, _, _, h⟩ := push16_only v s; rw [h]
@[simp] theorem push16_dot (v : Word) (s : State) : (push16 v s).dot = s.dot := by
  obtain ⟨_, _, _, _, _, h⟩ := push16_only v s; rw [h]
@[simp] theorem push16_line (v : Word) (s : State) : (push16 v s).line = s.line := by
  obtain ⟨_, _, _, _, _, h⟩ := push16_only v s; rw [h]
@[simp] theorem push16_windowLine (v : Word) (s : State) : (push16 v s).windowLine = s.windowLine := by
  obtain ⟨_, _, _, _, _, h⟩ := push16_only v s; rw [h]
@[simp] theorem push16_statLine (v : Word) (s : State) : (push16 v s).statLine = s.statLine := by
  obtain ⟨_, _, _, _, _, h⟩ := push16_only v s; rw [h]
@[simp] theorem push16_framebuffer (v : Word) (s : State) : (push16 v s).framebuffer = s.framebuffer := by
  obtain ⟨_, _, _, _, _, h⟩ := push16_only v s; rw [h]
@[simp] theorem push16_frameCount (v : Word) (s : State) : (push16 v s).frameCount = s.frameCount := by
  obtain ⟨_, _, _, _, _, h⟩ := push16_only v s; rw [h]
@[simp] theorem push16_presented (v : Word) (s : State) : (push16 v s).presented = s.presented := by
  obtain ⟨_, _, _, _, _, h⟩ := push16_only v s; rw [h]
@[simp] theorem push16_cycles (v : Word) (s : State) : (push16 v s).cycles = s.cycles := by
  obtain ⟨_, _, _, _, _, h⟩ := push16_only v s; rw [h]
@[simp] theorem push16_cfg (v : Word) (s : State) : (push16 v s).cfg = s.cfg := by
  obtain ⟨_, _, _, _, _, h⟩ := push16_only v s; rw [h]

@[simp] theorem push16_sp (v : Word) (s : State) : (push16 v s).sp = s.sp - 2 := by simp [push16]

/-- All that `timaTick` can change. -/
theorem timaTick_only (s : State) :
    ∃ m', timaTick s = { s with mem := m' } := by
  unfold timaTick; dsimp only; split <;> exact ⟨_, rfl⟩

@[simp] theorem timaTick_a (s : State) : (timaTick s).a = s.a := by
  obtain ⟨_, h⟩ := timaTick_only s; rw [h]
@[simp] theorem timaTick_f (s : State) : (timaTick s).f = s.f := by
  obtain ⟨_, h⟩ := timaTick_only s; rw [h]
@[simp] theorem timaTick_b (s : State) : (timaTick s).b = s.b := by
  obtain ⟨_, h⟩ := timaTick_only s; rw [h]
@[simp] theorem timaTick_c (s : State) : (timaTick s).c = s.c := by
  obtain ⟨_, h⟩ := timaTick_only s; rw [h]
@[simp] theorem timaTick_d (s : State) : (timaTick s).d = s.d := by
  obtain ⟨_, h⟩ := timaTick_only s; rw [h]
@[simp] theorem timaTick_e (s : State) : (timaTick s).e = s.e := by
  obtain ⟨_, h⟩ := timaTick_only s; rw [h]
@[simp] theorem timaTick_h (s : State) : (timaTick s).h = s.h := by
  obtain ⟨_, h⟩ := timaTick_only s; rw [h]
@[simp] theorem timaTick_l (s : State) : (timaTick s).l = s.l := by
  obtain ⟨_, h⟩ := timaTick_only s; rw [h]
@[simp] theorem timaTick_sp (s : State) : (timaTick s).sp = s.sp := by
  obtain ⟨_, h⟩ := timaTick_only s; rw [h]
@[simp] theorem timaTick_pc (s : State) : (timaTick s).pc = s.pc := by
  obtain ⟨_, h⟩ := timaTick_only s; rw [h]
@[simp] theorem timaTick_ime (s : State) : (timaTick s).ime = s.ime := by
  obtain ⟨_, h⟩ := timaTick_only s; rw [h]
@[simp] theorem timaTick_halted (s : State) : (timaTick s).halted = s.halted := by
  obtain ⟨_, h⟩ := timaTick_only s; rw [h]
@[simp] theorem timaTick_stopped (s : State) : (timaTick s).stopped = s.stopped := by
  obtain ⟨_, h⟩ := timaTick_only s; rw [h]
@[simp] theorem timaTick_eiPending (s : State) : (timaTick s).eiPending = s.eiPending := by
  obtain ⟨_, h⟩ := timaTick_only s; rw [h]
@[simp] theorem timaTick_haltBug (s : State) : (timaTick s).haltBug = s.haltBug := by
  obtain ⟨_, h⟩ := timaTick_only s; rw [h]
@[simp] theorem timaTick_fault (s : State) : (timaTick s).fault = s.fault := by
  obtain ⟨_, h⟩ := timaTick_only s; rw [h]
@[simp] theorem timaTick_bootRom (s : State) : (timaTick s).bootRom = s.bootRom := by
  obtain ⟨_, h⟩ := timaTick_only s; rw [h]
@[simp] theorem timaTick_rom (s : State) : (timaTick s).rom = s.rom := by
  obtain ⟨_, h⟩ := timaTick_only s; rw [h]
@[simp] theorem timaTick_mbc1 (s : State) : (timaTick s).mbc1 = s.mbc1 := by
  obtain ⟨_, h⟩ := timaTick_only s; rw [h]
@[simp] theorem timaTick_romBank (s : State) : (timaTick s).romBank = s.romBank := by
  obtain ⟨_, h⟩ := timaTick_only s; rw [h]
@[simp] theorem timaTick_div (s : State) : (timaTick s).div = s.div := by
  obtain ⟨_, h⟩ := timaTick_only s; rw [h]
@[simp] theorem timaTick_buttons (s : State) : (timaTick s).buttons = s.buttons := by
  obtain ⟨_, h⟩ := timaTick_only s; rw [h]
@[simp] theorem timaTick_dot (s : State) : (timaTick s).dot = s.dot := by
  obtain ⟨_, h⟩ := timaTick_only s; rw [h]
@[simp] theorem timaTick_line (s : State) : (timaTick s).line = s.line := by
  obtain ⟨_, h⟩ := timaTick_only s; rw [h]
@[simp] theorem timaTick_windowLine (s : State) : (timaTick s).windowLine = s.windowLine := by
  obtain ⟨_, h⟩ := timaTick_only s; rw [h]
@[simp] theorem timaTick_statLine (s : State) : (timaTick s).statLine = s.statLine := by
  obtain ⟨_, h⟩ := timaTick_only s; rw [h]
@[simp] theorem timaTick_framebuffer (s : State) : (timaTick s).framebuffer = s.framebuffer := by
  obtain ⟨_, h⟩ := timaTick_only s; rw [h]
@[simp] theorem timaTick_frameCount (s : State) : (timaTick s).frameCount = s.frameCount := by
  obtain ⟨_, h⟩ := timaTick_only s; rw [h]
@[simp] theorem timaTick_presented (s : State) : (timaTick s).presented = s.presented := by
  obtain ⟨_, h⟩ := timaTick_only s; rw [h]
@[simp] theorem timaTick_serialOut (s : State) : (timaTick s).serialOut = s.serialOut := by
  obtain ⟨_, h⟩ := timaTick_only s; rw [h]
@[simp] theorem timaTick_cycles (s : State) : (timaTick s).cycles = s.cycles := by
  obtain ⟨_, h⟩ := timaTick_only s; rw [h]
@[simp] theorem timaTick_cfg (s : State) : (timaTick s).cfg = s.cfg := by
  obtain ⟨_, h⟩ := timaTick_only s; rw [h]

/-- All that `timerCycle` can change. -/
theorem timerCycle_only (s : State) :
    ∃ m' dv', timerCycle s = { s with mem := m', div := dv' } := by
  unfold timerCycle
  dsimp only
  split
  · obtain ⟨m, h⟩ := timaTick_only { s with div := s.div + 1 }
    exact ⟨m, _, h⟩
  · exact ⟨_, _, rfl⟩

@[simp] theorem timerCycle_a (s : State) : (timerCycle s).a = s.a := by
  obtain ⟨_, _, h⟩ := timerCycle_only s; rw [h]
@[simp] theorem timerCycle_f (s : State) : (timerCycle s).f = s.f := by
  obtain ⟨_, _, h⟩ := timerCycle_only s; rw [h]
@[simp] theorem timerCycle_b (s : State) : (timerCycle s).b = s.b := by
  obtain ⟨_, _, h⟩ := timerCycle_only s; rw [h]
@[simp] theorem timerCycle_c (s : State) : (timerCycle s).c = s.c := by
  obtain ⟨_, _, h⟩ := timerCycle_only s; rw [h]
@[simp] theorem timerCycle_d (s : State) : (timerCycle s).d = s.d := by
  obtain ⟨_, _, h⟩ := timerCycle_only s; rw [h]
@[simp] theorem timerCycle_e (s : State) : (timerCycle s).e = s.e := by
  obtain ⟨_, _, h⟩ := timerCycle_only s; rw [h]
@[simp] theorem timerCycle_h (s : State) : (timerCycle s).h = s.h := by
  obtain ⟨_, _, h⟩ := timerCycle_only s; rw [h]
@[simp] theorem timerCycle_l (s : State) : (timerCycle s).l = s.l := by
  obtain ⟨_, _, h⟩ := timerCycle_only s; rw [h]
@[simp] theorem timerCycle_sp (s : State) : (timerCycle s).sp = s.sp := by
  obtain ⟨_, _, h⟩ := timerCycle_only s; rw [h]
@[simp] theorem timerCycle_pc (s : State) : (timerCycle s).pc = s.pc := by
  obtain ⟨_, _, h⟩ := timerCycle_only s; rw [h]
@[simp] theorem timerCycle_ime (s : State) : (timerCycle s).ime = s.ime := by
  obtain ⟨_, _, h⟩ := timerCycle_only s; rw [h]
@[simp] theorem timerCycle_halted (s : State) : (timerCycle s).halted = s.halted := by
  obtain ⟨_, _, h⟩ := timerCycle_only s; rw [h]
@[simp] theorem timerCycle_stopped (s : State) : (timerCycle s).stopped = s.stopped := by
  obtain ⟨_, _, h⟩ := timerCycle_only s; rw [h]
@[simp] theorem timerCycle_eiPending (s : State) : (timerCycle s).eiPending = s.eiPending := by
  obtain ⟨_, _, h⟩ := timerCycle_only s; rw [h]
@[simp] theorem timerCycle_haltBug (s : State) : (timerCycle s).haltBug = s.haltBug := by
  obtain ⟨_, _, h⟩ := timerCycle_only s; rw [h]
@[simp] theorem timerCycle_fault (s : State) : (timerCycle s).fault = s.fault := by
  obtain ⟨_, _, h⟩ := timerCycle_only s; rw [h]
@[simp] theorem timerCycle_bootRom (s : State) : (timerCycle s).bootRom = s.bootRom := by
  obtain ⟨_, _, h⟩ := timerCycle_only s; rw [h]
@[simp] theorem timerCycle_rom (s : State) : (timerCycle s).rom = s.rom := by
  obtain ⟨_, _, h⟩ := timerCycle_only s; rw [h]
@[simp] theorem timerCycle_mbc1 (s : State) : (timerCycle s).mbc1 = s.mbc1 := by
  obtain ⟨_, _, h⟩ := timerCycle_only s; rw [h]
@[simp] theorem timerCycle_romBank (s : State) : (timerCycle s).romBank = s.romBank := by
  obtain ⟨_, _, h⟩ := timerCycle_only s; rw [h]
@[simp] theorem timerCycle_buttons (s : State) : (timerCycle s).buttons = s.buttons := by
  obtain ⟨_, _, h⟩ := timerCycle_only s; rw [h]
@[simp] theorem timerCycle_dot (s : State) : (timerCycle s).dot = s.dot := by
  obtain ⟨_, _, h⟩ := timerCycle_only s; rw [h]
@[simp] theorem timerCycle_line (s : State) : (timerCycle s).line = s.line := by
  obtain ⟨_, _, h⟩ := timerCycle_only s; rw [h]
@[simp] theorem timerCycle_windowLine (s : State) : (timerCycle s).windowLine = s.windowLine := by
  obtain ⟨_, _, h⟩ := timerCycle_only s; rw [h]
@[simp] theorem timerCycle_statLine (s : State) : (timerCycle s).statLine = s.statLine := by
  obtain ⟨_, _, h⟩ := timerCycle_only s; rw [h]
@[simp] theorem timerCycle_framebuffer (s : State) : (timerCycle s).framebuffer = s.framebuffer := by
  obtain ⟨_, _, h⟩ := timerCycle_only s; rw [h]
@[simp] theorem timerCycle_frameCount (s : State) : (timerCycle s).frameCount = s.frameCount := by
  obtain ⟨_, _, h⟩ := timerCycle_only s; rw [h]
@[simp] theorem timerCycle_presented (s : State) : (timerCycle s).presented = s.presented := by
  obtain ⟨_, _, h⟩ := timerCycle_only s; rw [h]
@[simp] theorem timerCycle_serialOut (s : State) : (timerCycle s).serialOut = s.serialOut := by
  obtain ⟨_, _, h⟩ := timerCycle_only s; rw [h]
@[simp] theorem timerCycle_cycles (s : State) : (timerCycle s).cycles = s.cycles := by
  obtain ⟨_, _, h⟩ := timerCycle_only s; rw [h]
@[simp] theorem timerCycle_cfg (s : State) : (timerCycle s).cfg = s.cfg := by
  obtain ⟨_, _, h⟩ := timerCycle_only s; rw [h]

@[simp] theorem timerCycle_div (s : State) : (timerCycle s).div = s.div + 1 := by
  unfold timerCycle; dsimp only; split <;> simp

/-- All that `renderLine` can change. -/
theorem renderLine_only (L : Nat) (s : State) :
    ∃ fb' w', renderLine L s = { s with framebuffer := fb', windowLine := w' } := by
  exact ⟨_, _, rfl⟩

@[simp] theorem renderLine_a (L : Nat) (s : State) : (renderLine L s).a = s.a := by
  obtain ⟨_, _, h⟩ := renderLine_only L s; rw [h]
@[simp] theorem renderLine_f (L : Nat) (s : State) : (renderLine L s).f = s.f := by
  obtain ⟨_, _, h⟩ := renderLine_only L s; rw [h]
@[simp] theorem renderLine_b (L : Nat) (s : State) : (renderLine L s).b = s.b := by
  obtain ⟨_, _, h⟩ := renderLine_only L s; rw [h]
@[simp] theorem renderLine_c (L : Nat) (s : State) : (renderLine L s).c = s.c := by
  obtain ⟨_, _, h⟩ := renderLine_only L s; rw [h]
@[simp] theorem renderLine_d (L : Nat) (s : State) : (renderLine L s).d = s.d := by
  obtain ⟨_, _, h⟩ := renderLine_only L s; rw [h]
@[simp] theorem renderLine_e (L : Nat) (s : State) : (renderLine L s).e = s.e := by
  obtain ⟨_, _, h⟩ := renderLine_only L s; rw [h]
@[simp] theorem renderLine_h (L : Nat) (s : State) : (renderLine L s).h = s.h := by
  obtain ⟨_, _, h⟩ := renderLine_only L s; rw [h]
@[simp] theorem renderLine_l (L : Nat) (s : State) : (renderLine L s).l = s.l := by
  obtain ⟨_, _, h⟩ := renderLine_only L s; rw [h]
@[simp] theorem renderLine_sp (L : Nat) (s : State) : (renderLine L s).sp = s.sp := by
  obtain ⟨_, _, h⟩ := renderLine_only L s; rw [h]
@[simp] theorem renderLine_pc (L : Nat) (s : State) : (renderLine L s).pc = s.pc := by
  obtain ⟨_, _, h⟩ := renderLine_only L s; rw [h]
@[simp] theorem renderLine_ime (L : Nat) (s : State) : (renderLine L s).ime = s.ime := by
  obtain ⟨_, _, h⟩ := renderLine_only L s; rw [h]
@[simp] theorem renderLine_halted (L : Nat) (s : State) : (renderLine L s).halted = s.halted := by
  obtain ⟨_, _, h⟩ := renderLine_only L s; rw [h]
@[simp] theorem renderLine_stopped (L : Nat) (s : State) : (renderLine L s).stopped = s.stopped := by
  obtain ⟨_, _, h⟩ := renderLine_only L s; rw [h]
@[simp] theorem renderLine_eiPending (L : Nat) (s : State) : (renderLine L s).eiPending = s.eiPending := by
  obtain ⟨_, _, h⟩ := renderLine_only L s; rw [h]
@[simp] theorem renderLine_haltBug (L : Nat) (s : State) : (renderLine L s).haltBug = s.haltBug := by
  obtain ⟨_, _, h⟩ := renderLine_only L s; rw [h]
@[simp] theorem renderLine_fault (L : Nat) (s : State) : (renderLine L s).fault = s.fault := by
  obtain ⟨_, _, h⟩ := renderLine_only L s; rw [h]
@[simp] theorem renderLine_mem (L : Nat) (s : State) : (renderLine L s).mem = s.mem := by
  obtain ⟨_, _, h⟩ := renderLine_only L s; rw [h]
@[simp] theorem renderLine_bootRom (L : Nat) (s : State) : (renderLine L s).bootRom = s.bootRom := by
  obtain ⟨_, _, h⟩ := renderLine_only L s; rw [h]
@[simp] theorem renderLine_rom (L : Nat) (s : State) : (renderLine L s).rom = s.rom := by
  obtain ⟨_, _, h⟩ := renderLine_only L s; rw [h]
@[simp] theorem renderLine_mbc1 (L : Nat) (s : State) : (renderLine L s).mbc1 = s.mbc1 := by
  obtain ⟨_, _, h⟩ := renderLine_only L s; rw [h]
@[simp] theorem renderLine_romBank (L : Nat) (s : State) : (renderLine L s).romBank = s.romBank := by
  obtain ⟨_, _, h⟩ := renderLine_only L s; rw [h]
@[simp] theorem renderLine_div (L : Nat) (s : State) : (renderLine L s).div = s.div := by
  obtain ⟨_, _, h⟩ := renderLine_only L s; rw [h]
@[simp] theorem renderLine_buttons (L : Nat) (s : State) : (renderLine L s).buttons = s.buttons := by
  obtain ⟨_, _, h⟩ := renderLine_only L s; rw [h]
@[simp] theorem renderLine_dot (L : Nat) (s : State) : (renderLine L s).dot = s.dot := by
  obtain ⟨_, _, h⟩ := renderLine_only L s; rw [h]
@[simp] theorem renderLine_line (L : Nat) (s : State) : (renderLine L s).line = s.line := by
  obtain ⟨_, _, h⟩ := renderLine_only L s; rw [h]
@[simp] theorem renderLine_statLine (L : Nat) (s : State) : (renderLine L s).statLine = s.statLine := by
  obtain ⟨_, _, h⟩ := renderLine_only L s; rw [h]
@[simp] theorem renderLine_frameCount (L : Nat) (s : State) : (renderLine L s).frameCount = s.frameCount := by
  obtain ⟨_, _, h⟩ := renderLine_only L s; rw [h]
@[simp] theorem renderLine_presented (L : Nat) (s : State) : (renderLine L s).presented = s.presented := by
  obtain ⟨_, _, h⟩ := renderLine_only L s; rw [h]
@[simp] theorem renderLine_serialOut (L : Nat) (s : State) : (renderLine L s).serialOut = s.serialOut := by
  obtain ⟨_, _, h⟩ := renderLine_only L s; rw [h]
@[simp] theorem renderLine_cycles (L : Nat) (s : State) : (renderLine L s).cycles = s.cycles := by
  obtain ⟨_, _, h⟩ := renderLine_only L s; rw [h]
@[simp] theorem renderLine_cfg (L : Nat) (s : State) : (renderLine L s).cfg = s.cfg := by
  obtain ⟨_, _, h⟩ := renderLine_only L s; rw [h]

/-- All that `lineStart` can change. -/
theorem lineStart_only (s : State) :
    ∃ m' w' n' pr', lineStart s = { s with mem := m', windowLine := w', frameCount := n', presented := pr' } := by
  unfold lineStart vblank requestInterrupt
  dsimp only
  split <;> split <;> exact ⟨_, _, _, _, rfl⟩

@[simp] theorem lineStart_a (s : State) : (lineStart s).a = s.a := by
  obtain ⟨_, _, _, _, h⟩ := lineStart_only s; rw [h]
@[simp] theorem lineStart_f (s : State) : (lineStart s).f = s.f := by
  obtain ⟨_, _, _, _, h⟩ := lineStart_only s; rw [h]
@[simp] theorem lineStart_b (s : State) : (lineStart s).b = s.b := by
  obtain ⟨_, _, _, _, h⟩ := lineStart_only s; rw [h]
@[simp] theorem lineStart_c (s : State) : (lineStart s).c = s.c := by
  obtain ⟨_, _, _, _, h⟩ := lineStart_only s; rw [h]
@[simp] theorem lineStart_d (s : State) : (lineStart s).d = s.d := by
  obtain ⟨_, _, _, _, h⟩ := lineStart_only s; rw [h]
@[simp] theorem lineStart_e (s : State) : (lineStart s).e = s.e := by
  obtain ⟨_, _, _, _, h⟩ := lineStart_only s; rw [h]
@[simp] theorem lineStart_h (s : State) : (lineStart s).h = s.h := by
  obtain ⟨_, _, _, _, h⟩ := lineStart_only s; rw [h]
@[simp] theorem lineStart_l (s : State) : (lineStart s).l = s.l := by
  obtain ⟨_, _, _, _, h⟩ := lineStart_only s; rw [h]
@[simp] theorem lineStart_sp (s : State) : (lineStart s).sp = s.sp := by
  obtain ⟨_, _, _, _, h⟩ := lineStart_only s; rw [h]
@[simp] theorem lineStart_pc (s : State) : (lineStart s).pc = s.pc := by
  obtain ⟨_, _, _, _, h⟩ := lineStart_only s; rw [h]
@[simp] theorem lineStart_ime (s : State) : (lineStart s).ime = s.ime := by
  obtain ⟨_, _, _, _, h⟩ := lineStart_only s; rw [h]
@[simp] theorem lineStart_halted (s : State) : (lineStart s).halted = s.halted := by
  obtain ⟨_, _, _, _, h⟩ := lineStart_only s; rw [h]
@[simp] theorem lineStart_stopped (s : State) : (lineStart s).stopped = s.stopped := by
  obtain ⟨_, _, _, _, h⟩ := lineStart_only s; rw [h]
@[simp] theorem lineStart_eiPending (s : State) : (lineStart s).eiPending = s.eiPending := by
  obtain ⟨_, _, _, _, h⟩ := lineStart_only s; rw [h]
@[simp] theorem lineStart_haltBug (s : State) : (lineStart s).haltBug = s.haltBug := by
  obtain ⟨_, _, _, _, h⟩ := lineStart_only s; rw [h]
@[simp] theorem lineStart_fault (s : State) : (lineStart s).fault = s.fault := by
  obtain ⟨_, _, _, _, h⟩ := lineStart_only s; rw [h]
@[simp] theorem lineStart_bootRom (s : State) : (lineStart s).bootRom = s.bootRom := by
  obtain ⟨_, _, _, _, h⟩ := lineStart_only s; rw [h]
@[simp] theorem lineStart_rom (s : State) : (lineStart s).rom = s.rom := by
  obtain ⟨_, _, _, _, h⟩ := lineStart_only s; rw [h]
@[simp] theorem lineStart_mbc1 (s : State) : (lineStart s).mbc1 = s.mbc1 := by
  obtain ⟨_, _, _, _, h⟩ := lineStart_only s; rw [h]
@[simp] theorem lineStart_romBank (s : State) : (lineStart s).romBank = s.romBank := by
  obtain ⟨_, _, _, _, h⟩ := lineStart_only s; rw [h]
@[simp] theorem lineStart_div (s : State) : (lineStart s).div = s.div := by
  obtain ⟨_, _, _, _, h⟩ := lineStart_only s; rw [h]
@[simp] theorem lineStart_buttons (s : State) : (lineStart s).buttons = s.buttons := by
  obtain ⟨_, _, _, _, h⟩ := lineStart_only s; rw [h]
@[simp] theorem lineStart_dot (s : State) : (lineStart s).dot = s.dot := by
  obtain ⟨_, _, _, _, h⟩ := lineStart_only s; rw [h]
@[simp] theorem lineStart_line (s : State) : (lineStart s).line = s.line := by
  obtain ⟨_, _, _, _, h⟩ := lineStart_only s; rw [h]
@[simp] theorem lineStart_statLine (s : State) : (lineStart s).statLine = s.statLine := by
  obtain ⟨_, _, _, _, h⟩ := lineStart_only s; rw [h]
@[simp] theorem lineStart_framebuffer (s : State) : (lineStart s).framebuffer = s.framebuffer := by
  obtain ⟨_, _, _, _, h⟩ := lineStart_only s; rw [h]
@[simp] theorem lineStart_serialOut (s : State) : (lineStart s).serialOut = s.serialOut := by
  obtain ⟨_, _, _, _, h⟩ := lineStart_only s; rw [h]
@[simp] theorem lineStart_cycles (s : State) : (lineStart s).cycles = s.cycles := by
  obtain ⟨_, _, _, _, h⟩ := lineStart_only s; rw [h]
@[simp] theorem lineStart_cfg (s : State) : (lineStart s).cfg = s.cfg := by
  obtain ⟨_, _, _, _, h⟩ := lineStart_only s; rw [h]

/-- All that `updateStat` can change. -/
theorem updateStat_only (s : State) :
    ∃ m' q', updateStat s = { s with mem := m', statLine := q' } := by
  unfold updateStat requestInterrupt
  dsimp only
  split <;> exact ⟨_, _, rfl⟩

@[simp] theorem updateStat_a (s : State) : (updateStat s).a = s.a := by
  obtain ⟨_, _, h⟩ := updateStat_only s; rw [h]
@[simp] theorem updateStat_f (s : State) : (updateStat s).f = s.f := by
  obtain ⟨_, _, h⟩ := updateStat_only s; rw [h]
@[simp] theorem updateStat_b (s : State) : (updateStat s).b = s.b := by
  obtain ⟨_, _, h⟩ := updateStat_only s; rw [h]
@[simp] theorem updateStat_c (s : State) : (updateStat s).c = s.c := by
  obtain ⟨_, _, h⟩ := updateStat_only s; rw [h]
@[simp] theorem updateStat_d (s : State) : (updateStat s).d = s.d := by
  obtain ⟨_, _, h⟩ := updateStat_only s; rw [h]
@[simp] theorem updateStat_e (s : State) : (updateStat s).e = s.e := by
  obtain ⟨_, _, h⟩ := updateStat_only s; rw [h]
@[simp] theorem updateStat_h (s : State) : (updateStat s).h = s.h := by
  obtain ⟨_, _, h⟩ := updateStat_only s; rw [h]
@[simp] theorem updateStat_l (s : State) : (updateStat s).l = s.l := by
  obtain ⟨_, _, h⟩ := updateStat_only s; rw [h]
@[simp] theorem updateStat_sp (s : State) : (updateStat s).sp = s.sp := by
  obtain ⟨_, _, h⟩ := updateStat_only s; rw [h]
@[simp] theorem updateStat_pc (s : State) : (updateStat s).pc = s.pc := by
  obtain ⟨_, _, h⟩ := updateStat_only s; rw [h]
@[simp] theorem updateStat_ime (s : State) : (updateStat s).ime = s.ime := by
  obtain ⟨_, _, h⟩ := updateStat_only s; rw [h]
@[simp] theorem updateStat_halted (s : State) : (updateStat s).halted = s.halted := by
  obtain ⟨_, _, h⟩ := updateStat_only s; rw [h]
@[simp] theorem updateStat_stopped (s : State) : (updateStat s).stopped = s.stopped := by
  obtain ⟨_, _, h⟩ := updateStat_only s; rw [h]
@[simp] theorem updateStat_eiPending (s : State) : (updateStat s).eiPending = s.eiPending := by
  obtain ⟨_, _, h⟩ := updateStat_only s; rw [h]
@[simp] theorem updateStat_haltBug (s : State) : (updateStat s).haltBug = s.haltBug := by
  obtain ⟨_, _, h⟩ := updateStat_only s; rw [h]
@[simp] theorem updateStat_fault (s : State) : (updateStat s).fault = s.fault := by
  obtain ⟨_, _, h⟩ := updateStat_only s; rw [h]
@[simp] theorem updateStat_bootRom (s : State) : (updateStat s).bootRom = s.bootRom := by
  obtain ⟨_, _, h⟩ := updateStat_only s; rw [h]
@[simp] theorem updateStat_rom (s : State) : (updateStat s).rom = s.rom := by
  obtain ⟨_, _, h⟩ := updateStat_only s; rw [h]
@[simp] theorem updateStat_mbc1 (s : State) : (updateStat s).mbc1 = s.mbc1 := by
  obtain ⟨_, _, h⟩ := updateStat_only s; rw [h]
@[simp] theorem updateStat_romBank (s : State) : (updateStat s).romBank = s.romBank := by
  obtain ⟨_, _, h⟩ := updateStat_only s; rw [h]
@[simp] theorem updateStat_div (s : State) : (updateStat s).div = s.div := by
  obtain ⟨_, _, h⟩ := updateStat_only s; rw [h]
@[simp] theorem updateStat_buttons (s : State) : (updateStat s).buttons = s.buttons := by
  obtain ⟨_, _, h⟩ := updateStat_only s; rw [h]
@[simp] theorem updateStat_dot (s : State) : (updateStat s).dot = s.dot := by
  obtain ⟨_, _, h⟩ := updateStat_only s; rw [h]
@[simp] theorem updateStat_line (s : State) : (updateStat s).line = s.line := by
  obtain ⟨_, _, h⟩ := updateStat_only s; rw [h]
@[simp] theorem updateStat_windowLine (s : State) : (updateStat s).windowLine = s.windowLine := by
  obtain ⟨_, _, h⟩ := updateStat_only s; rw [h]
@[simp] theorem updateStat_framebuffer (s : State) : (updateStat s).framebuffer = s.framebuffer := by
  obtain ⟨_, _, h⟩ := updateStat_only s; rw [h]
@[simp] theorem updateStat_frameCount (s : State) : (updateStat s).frameCount = s.frameCount := by
  obtain ⟨_, _, h⟩ := updateStat_only s; rw [h]
@[simp] theorem updateStat_presented (s : State) : (updateStat s).presented = s.presented := by
  obtain ⟨_, _, h⟩ := updateStat_only s; rw [h]
@[simp] theorem updateStat_serialOut (s : State) : (updateStat s).serialOut = s.serialOut := by
  obtain ⟨_, _, h⟩ := updateStat_only s; rw [h]
@[simp] theorem updateStat_cycles (s : State) : (updateStat s).cycles = s.cycles := by
  obtain ⟨_, _, h⟩ := updateStat_only s; rw [h]
@[simp] theorem updateStat_cfg (s : State) : (updateStat s).cfg = s.cfg := by
  obtain ⟨_, _, h⟩ := updateStat_only s; rw [h]

/-- All that `nextDot` can change. -/
theorem nextDot_only (s : State) :
    ∃ x0' y0', nextDot s = { s with dot := x0', line := y0' } := by
  unfold nextDot; split <;> exact ⟨_, _, rfl⟩

@[simp] theorem nextDot_a (s : State) : (nextDot s).a = s.a := by
  obtain ⟨_, _, h⟩ := nextDot_only s; rw [h]
@[simp] theorem nextDot_f (s : State) : (nextDot s).f = s.f := by
  obtain ⟨_, _, h⟩ := nextDot_only s; rw [h]
@[simp] theorem nextDot_b (s : State) : (nextDot s).b = s.b := by
  obtain ⟨_, _, h⟩ := nextDot_only s; rw [h]
@[simp] theorem nextDot_c (s : State) : (nextDot s).c = s.c := by
  obtain ⟨_, _, h⟩ := nextDot_only s; rw [h]
@[simp] theorem nextDot_d (s : State) : (nextDot s).d = s.d := by
  obtain ⟨_, _, h⟩ := nextDot_only s; rw [h]
@[simp] theorem nextDot_e (s : State) : (nextDot s).e = s.e := by
  obtain ⟨_, _, h⟩ := nextDot_only s; rw [h]
@[simp] theorem nextDot_h (s : State) : (nextDot s).h = s.h := by
  obtain ⟨_, _, h⟩ := nextDot_only s; rw [h]
@[simp] theorem nextDot_l (s : State) : (nextDot s).l = s.l := by
  obtain ⟨_, _, h⟩ := nextDot_only s; rw [h]
@[simp] theorem nextDot_sp (s : State) : (nextDot s).sp = s.sp := by
  obtain ⟨_, _, h⟩ := nextDot_only s; rw [h]
@[simp] theorem nextDot_pc (s : State) : (nextDot s).pc = s.pc := by
  obtain ⟨_, _, h⟩ := nextDot_only s; rw [h]
@[simp] theorem nextDot_ime (s : State) : (nextDot s).ime = s.ime := by
  obtain ⟨_, _, h⟩ := nextDot_only s; rw [h]
@[simp] theorem nextDot_halted (s : State) : (nextDot s).halted = s.halted := by
  obtain ⟨_, _, h⟩ := nextDot_only s; rw [h]
@[simp] theorem nextDot_stopped (s : State) : (nextDot s).stopped = s.stopped := by
  obtain ⟨_, _, h⟩ := nextDot_only s; rw [h]
@[simp] theorem nextDot_eiPending (s : State) : (nextDot s).eiPending = s.eiPending := by
  obtain ⟨_, _, h⟩ := nextDot_only s; rw [h]
@[simp] theorem nextDot_haltBug (s : State) : (nextDot s).haltBug = s.haltBug := by
  obtain ⟨_, _, h⟩ := nextDot_only s; rw [h]
@[simp] theorem nextDot_fault (s : State) : (nextDot s).fault = s.fault := by
  obtain ⟨_, _, h⟩ := nextDot_only s; rw [h]
@[simp] theorem nextDot_mem (s : State) : (nextDot s).mem = s.mem := by
  obtain ⟨_, _, h⟩ := nextDot_only s; rw [h]
@[simp] theorem nextDot_bootRom (s : State) : (nextDot s).bootRom = s.bootRom := by
  obtain ⟨_, _, h⟩ := nextDot_only s; rw [h]
@[simp] theorem nextDot_rom (s : State) : (nextDot s).rom = s.rom := by
  obtain ⟨_, _, h⟩ := nextDot_only s; rw [h]
@[simp] theorem nextDot_mbc1 (s : State) : (nextDot s).mbc1 = s.mbc1 := by
  obtain ⟨_, _, h⟩ := nextDot_only s; rw [h]
@[simp] theorem nextDot_romBank (s : State) : (nextDot s).romBank = s.romBank := by
  obtain ⟨_, _, h⟩ := nextDot_only s; rw [h]
@[simp] theorem nextDot_div (s : State) : (nextDot s).div = s.div := by
  obtain ⟨_, _, h⟩ := nextDot_only s; rw [h]
@[simp] theorem nextDot_buttons (s : State) : (nextDot s).buttons = s.buttons := by
  obtain ⟨_, _, h⟩ := nextDot_only s; rw [h]
@[simp] theorem nextDot_windowLine (s : State) : (nextDot s).windowLine = s.windowLine := by
  obtain ⟨_, _, h⟩ := nextDot_only s; rw [h]
@[simp] theorem nextDot_statLine (s : State) : (nextDot s).statLine = s.statLine := by
  obtain ⟨_, _, h⟩ := nextDot_only s; rw [h]
@[simp] theorem nextDot_framebuffer (s : State) : (nextDot s).framebuffer = s.framebuffer := by
  obtain ⟨_, _, h⟩ := nextDot_only s; rw [h]
@[simp] theorem nextDot_frameCount (s : State) : (nextDot s).frameCount = s.frameCount := by
  obtain ⟨_, _, h⟩ := nextDot_only s; rw [h]
@[simp] theorem nextDot_presented (s : State) : (nextDot s).presented = s.presented := by
  obtain ⟨_, _, h⟩ := nextDot_only s; rw [h]
@[simp] theorem nextDot_serialOut (s : State) : (nextDot s).serialOut = s.serialOut := by
  obtain ⟨_, _, h⟩ := nextDot_only s; rw [h]
@[simp] theorem nextDot_cycles (s : State) : (nextDot s).cycles = s.cycles := by
  obtain ⟨_, _, h⟩ := nextDot_only s; rw [h]
@[simp] theorem nextDot_cfg (s : State) : (nextDot s).cfg = s.cfg := by
  obtain ⟨_, _, h⟩ := nextDot_only s; rw [h]

/-- All that `ppuDot` can change. -/
theorem ppuDot_only (s : State) :
    ∃ m' x0' y0' w' q' fb' n' pr', ppuDot s = { s with mem := m', dot := x0', line := y0', windowLine := w', statLine := q', framebuffer := fb', frameCount := n', presented := pr' } := by
  have h1 : ∃ a b c d, (if s.dot = 0 then lineStart s else s) =
      { s with mem := a, windowLine := b, frameCount := c, presented := d } := by
    split
    · exact lineStart_only s
    · exact ⟨_, _, _, _, rfl⟩
  obtain ⟨a, b, c, d, h1⟩ := h1
  have h2 : ∀ t : State, ∃ a b, (if t.line < visibleLines ∧ t.dot = t.cfg.renderDot then renderLine t.line t else t) =
      { t with framebuffer := a, windowLine := b } := by
    intro t
    split
    · exact renderLine_only _ t
    · exact ⟨_, _, rfl⟩
  obtain ⟨e, f, h2⟩ := h2 (if s.dot = 0 then lineStart s else s)
  unfold ppuDot
  dsimp only
  rw [h2, h1]
  obtain ⟨g, i, h3⟩ := updateStat_only { s with mem := a, windowLine := f, frameCount := c, presented := d, framebuffer := e }
  obtain ⟨j, k, h4⟩ := nextDot_only { s with mem := g, windowLine := f, statLine := i, frameCount := c, presented := d, framebuffer := e }
  refine ⟨g, j, k, f, i, e, c, d, ?_⟩
  rw [h3]
  exact h4

@[simp] theorem ppuDot_a (s : State) : (ppuDot s).a = s.a := by
  obtain ⟨_, _, _, _, _, _, _, _, h⟩ := ppuDot_only s; rw [h]
@[simp] theorem ppuDot_f (s : State) : (ppuDot s).f = s.f := by
  obtain ⟨_, _, _, _, _, _, _, _, h⟩ := ppuDot_only s; rw [h]
@[simp] theorem ppuDot_b (s : State) : (ppuDot s).b = s.b := by
  obtain ⟨_, _, _, _, _, _, _, _, h⟩ := ppuDot_only s; rw [h]
@[simp] theorem ppuDot_c (s : State) : (ppuDot s).c = s.c := by
  obtain ⟨_, _, _, _, _, _, _, _, h⟩ := ppuDot_only s; rw [h]
@[simp] theorem ppuDot_d (s : State) : (ppuDot s).d = s.d := by
  obtain ⟨_, _, _, _, _, _, _, _, h⟩ := ppuDot_only s; rw [h]
@[simp] theorem ppuDot_e (s : State) : (ppuDot s).e = s.e := by
  obtain ⟨_, _, _, _, _, _, _, _, h⟩ := ppuDot_only s; rw [h]
@[simp] theorem ppuDot_h (s : State) : (ppuDot s).h = s.h := by
  obtain ⟨_, _, _, _, _, _, _, _, h⟩ := ppuDot_only s; rw [h]
@[simp] theorem ppuDot_l (s : State) : (ppuDot s).l = s.l := by
  obtain ⟨_, _, _, _, _, _, _, _, h⟩ := ppuDot_only s; rw [h]
@[simp] theorem ppuDot_sp (s : State) : (ppuDot s).sp = s.sp := by
  obtain ⟨_, _, _, _, _, _, _, _, h⟩ := ppuDot_only s; rw [h]
@[simp] theorem ppuDot_pc (s : State) : (ppuDot s).pc = s.pc := by
  obtain ⟨_, _, _, _, _, _, _, _, h⟩ := ppuDot_only s; rw [h]
@[simp] theorem ppuDot_ime (s : State) : (ppuDot s).ime = s.ime := by
  obtain ⟨_, _, _, _, _, _, _, _, h⟩ := ppuDot_only s; rw [h]
@[simp] theorem ppuDot_halted (s : State) : (ppuDot s).halted = s.halted := by
  obtain ⟨_, _, _, _, _, _, _, _, h⟩ := ppuDot_only s; rw [h]
@[simp] theorem ppuDot_stopped (s : State) : (ppuDot s).stopped = s.stopped := by
  obtain ⟨_, _, _, _, _, _, _, _, h⟩ := ppuDot_only s; rw [h]
@[simp] theorem ppuDot_eiPending (s : State) : (ppuDot s).eiPending = s.eiPending := by
  obtain ⟨_, _, _, _, _, _, _, _, h⟩ := ppuDot_only s; rw [h]
@[simp] theorem ppuDot_haltBug (s : State) : (ppuDot s).haltBug = s.haltBug := by
  obtain ⟨_, _, _, _, _, _, _, _, h⟩ := ppuDot_only s; rw [h]
@[simp] theorem ppuDot_fault (s : State) : (ppuDot s).fault = s.fault := by
  obtain ⟨_, _, _, _, _, _, _, _, h⟩ := ppuDot_only s; rw [h]
@[simp] theorem ppuDot_bootRom (s : State) : (ppuDot s).bootRom = s.bootRom := by
  obtain ⟨_, _, _, _, _, _, _, _, h⟩ := ppuDot_only s; rw [h]
@[simp] theorem ppuDot_rom (s : State) : (ppuDot s).rom = s.rom := by
  obtain ⟨_, _, _, _, _, _, _, _, h⟩ := ppuDot_only s; rw [h]
@[simp] theorem ppuDot_mbc1 (s : State) : (ppuDot s).mbc1 = s.mbc1 := by
  obtain ⟨_, _, _, _, _, _, _, _, h⟩ := ppuDot_only s; rw [h]
@[simp] theorem ppuDot_romBank (s : State) : (ppuDot s).romBank = s.romBank := by
  obtain ⟨_, _, _, _, _, _, _, _, h⟩ := ppuDot_only s; rw [h]
@[simp] theorem ppuDot_div (s : State) : (ppuDot s).div = s.div := by
  obtain ⟨_, _, _, _, _, _, _, _, h⟩ := ppuDot_only s; rw [h]
@[simp] theorem ppuDot_buttons (s : State) : (ppuDot s).buttons = s.buttons := by
  obtain ⟨_, _, _, _, _, _, _, _, h⟩ := ppuDot_only s; rw [h]
@[simp] theorem ppuDot_serialOut (s : State) : (ppuDot s).serialOut = s.serialOut := by
  obtain ⟨_, _, _, _, _, _, _, _, h⟩ := ppuDot_only s; rw [h]
@[simp] theorem ppuDot_cycles (s : State) : (ppuDot s).cycles = s.cycles := by
  obtain ⟨_, _, _, _, _, _, _, _, h⟩ := ppuDot_only s; rw [h]
@[simp] theorem ppuDot_cfg (s : State) : (ppuDot s).cfg = s.cfg := by
  obtain ⟨_, _, _, _, _, _, _, _, h⟩ := ppuDot_only s; rw [h]

/-- All that `advance` can change. -/
theorem advance_only (n : Nat) (s : State) :
    ∃ m' dv' x0' y0' w' q' fb' n' pr', advance n s = { s with mem := m', div := dv', dot := x0', line := y0', windowLine := w', statLine := q', framebuffer := fb', frameCount := n', presented := pr' } := by
  induction n generalizing s with
  | zero => exact ⟨_, _, _, _, _, _, _, _, _, rfl⟩
  | succ n ih =>
    obtain ⟨_, _, h1⟩ := timerCycle_only s
    obtain ⟨_, _, _, _, _, _, _, _, h2⟩ := ppuDot_only (timerCycle s)
    obtain ⟨_, _, _, _, _, _, _, _, _, h3⟩ := ih (ppuDot (timerCycle s))
    exact ⟨_, _, _, _, _, _, _, _, _, by rw [advance, h3, h2, h1]⟩

@[simp] theorem advance_a (n : Nat) (s : State) : (advance n s).a = s.a := by
  obtain ⟨_, _, _, _, _, _, _, _, _, h⟩ := advance_only n s; rw [h]
@[simp] theorem advance_f (n : Nat) (s : State) : (advance n s).f = s.f := by
  obtain ⟨_, _, _, _, _, _, _, _, _, h⟩ := advance_only n s; rw [h]
@[simp] theorem advance_b (n : Nat) (s : State) : (advance n s).b = s.b := by
  obtain ⟨_, _, _, _, _, _, _, _, _, h⟩ := advance_only n s; rw [h]
@[simp] theorem advance_c (n : Nat) (s : State) : (advance n s).c = s.c := by
  obtain ⟨_, _, _, _, _, _, _, _, _, h⟩ := advance_only n s; rw [h]
@[simp] theorem advance_d (n : Nat) (s : State) : (advance n s).d = s.d := by
  obtain ⟨_, _, _, _, _, _, _, _, _, h⟩ := advance_only n s; rw [h]
@[simp] theorem advance_e (n : Nat) (s : State) : (advance n s).e = s.e := by
  obtain ⟨_, _, _, _, _, _, _, _, _, h⟩ := advance_only n s; rw [h]
@[simp] theorem advance_h (n : Nat) (s : State) : (advance n s).h = s.h := by
  obtain ⟨_, _, _, _, _, _, _, _, _, h⟩ := advance_only n s; rw [h]
@[simp] theorem advance_l (n : Nat) (s : State) : (advance n s).l = s.l := by
  obtain ⟨_, _, _, _, _, _, _, _, _, h⟩ := advance_only n s; rw [h]
@[simp] theorem advance_sp (n : Nat) (s : State) : (advance n s).sp = s.sp := by
  obtain ⟨_, _, _, _, _, _, _, _, _, h⟩ := advance_only n s; rw [h]
@[simp] theorem advance_pc (n : Nat) (s : State) : (advance n s).pc = s.pc := by
  obtain ⟨_, _, _, _, _, _, _, _, _, h⟩ := advance_only n s; rw [h]
@[simp] theorem advance_ime (n : Nat) (s : State) : (advance n s).ime = s.ime := by
  obtain ⟨_, _, _, _, _, _, _, _, _, h⟩ := advance_only n s; rw [h]
@[simp] theorem advance_halted (n : Nat) (s : State) : (advance n s).halted = s.halted := by
  obtain ⟨_, _, _, _, _, _, _, _, _, h⟩ := advance_only n s; rw [h]
@[simp] theorem advance_stopped (n : Nat) (s : State) : (advance n s).stopped = s.stopped := by
  obtain ⟨_, _, _, _, _, _, _, _, _, h⟩ := advance_only n s; rw [h]
@[simp] theorem advance_eiPending (n : Nat) (s : State) : (advance n s).eiPending = s.eiPending := by
  obtain ⟨_, _, _, _, _, _, _, _, _, h⟩ := advance_only n s; rw [h]
@[simp] theorem advance_haltBug (n : Nat) (s : State) : (advance n s).haltBug = s.haltBug := by
  obtain ⟨_, _, _, _, _, _, _, _, _, h⟩ := advance_only n s; rw [h]
@[simp] theorem advance_fault (n : Nat) (s : State) : (advance n s).fault = s.fault := by
  obtain ⟨_, _, _, _, _, _, _, _, _, h⟩ := advance_only n s; rw [h]
@[simp] theorem advance_bootRom (n : Nat) (s : State) : (advance n s).bootRom = s.bootRom := by
  obtain ⟨_, _, _, _, _, _, _, _, _, h⟩ := advance_only n s; rw [h]
@[simp] theorem advance_rom (n : Nat) (s : State) : (advance n s).rom = s.rom := by
  obtain ⟨_, _, _, _, _, _, _, _, _, h⟩ := advance_only n s; rw [h]
@[simp] theorem advance_mbc1 (n : Nat) (s : State) : (advance n s).mbc1 = s.mbc1 := by
  obtain ⟨_, _, _, _, _, _, _, _, _, h⟩ := advance_only n s; rw [h]
@[simp] theorem advance_romBank (n : Nat) (s : State) : (advance n s).romBank = s.romBank := by
  obtain ⟨_, _, _, _, _, _, _, _, _, h⟩ := advance_only n s; rw [h]
@[simp] theorem advance_buttons (n : Nat) (s : State) : (advance n s).buttons = s.buttons := by
  obtain ⟨_, _, _, _, _, _, _, _, _, h⟩ := advance_only n s; rw [h]
@[simp] theorem advance_serialOut (n : Nat) (s : State) : (advance n s).serialOut = s.serialOut := by
  obtain ⟨_, _, _, _, _, _, _, _, _, h⟩ := advance_only n s; rw [h]
@[simp] theorem advance_cycles (n : Nat) (s : State) : (advance n s).cycles = s.cycles := by
  obtain ⟨_, _, _, _, _, _, _, _, _, h⟩ := advance_only n s; rw [h]
@[simp] theorem advance_cfg (n : Nat) (s : State) : (advance n s).cfg = s.cfg := by
  obtain ⟨_, _, _, _, _, _, _, _, _, h⟩ := advance_only n s; rw [h]


end Sys2Proof.Machine
end

