-- ==== Sys2Proof/Laws/Bus.lean ====
section
/-! SUPPORT. The bus: what a read depends on, what a write does in each address range, that writes keep memory canonical, and
that a write commutes with the retiring of the instruction around it. -/

namespace Sys2Proof.Machine

/-! ## Reads -/

/-- A read depends on these fields only. -/
theorem readByte_congr (s t : State) (x : Word) (hm : t.mem = s.mem) (hb : t.bootRom = s.bootRom) (hr : t.rom = s.rom)
    (h1 : t.mbc1 = s.mbc1) (hk : t.romBank = s.romBank) (hd : t.div = s.div) (hj : t.buttons = s.buttons) :
    readByte t x = readByte s x := by
  unfold readByte overlayOn bootByte bankedRead bankedIndex joypadRead State.cell
  rw [hm, hb, hr, h1, hk, hd, hj]

@[simp] theorem readByte_charge (s : State) (n : Nat) (x : Word) : readByte (s.charge n) x = readByte s x := rfl
@[simp] theorem readByte_advancePc (s : State) (n : Nat) (x : Word) : readByte (s.advancePc n) x = readByte s x := rfl
@[simp] theorem readByte_putFlags (s : State) (z n h c : Bool) (x : Word) :
    readByte (s.putFlags z n h c) x = readByte s x := rfl

/-! ## Writes, range by range (20_memory R120) -/

theorem writeByte_cartridge (x : Word) (v : Byte) (s : State) (h : x.toNat ≤ 0x7FFF)
    (hb : ¬(s.mbc1 = true ∧ 0x2000 ≤ x.toNat ∧ x.toNat ≤ 0x3FFF)) : writeByte x v s = s := by
  simp only [writeByte, h, hb, if_true, if_false]

theorem writeByte_bankSelect (x : Word) (v : Byte) (s : State) (h : s.mbc1 = true ∧ 0x2000 ≤ x.toNat ∧ x.toNat ≤ 0x3FFF) :
    writeByte x v s = { s with romBank := bankSelect v } := by
  have : x.toNat ≤ 0x7FFF := by omega
  simp only [writeByte, this, h, and_self, if_true]

theorem writeByte_div (v : Byte) (s : State) : writeByte 0xFF04 v s = { s with div := 0 } := rfl

theorem writeByte_stat (v : Byte) (s : State) :
    writeByte 0xFF41 v s = s.setCell 0xFF41 ((v &&& 0x78) ||| (s.cell 0xFF41 &&& 0x87)) := rfl

theorem writeByte_dma (v : Byte) (s : State) : writeByte 0xFF46 v s = oamDma v (s.setCell 0xFF46 v) := rfl

theorem writeByte_serial (v : Byte) (s : State) :
    writeByte 0xFF01 v s =
      { s.setCell 0xFF01 v with serialOut := if v = 0 then s.serialOut else s.serialOut ++ [v] } := by
  by_cases h : v = 0
  · subst h; rfl
  · have h' : ¬ v = 0#8 := h
    simp [writeByte, h']

/-- Everywhere else a write stores in the cell and does nothing more. -/
theorem writeByte_plain (x : Word) (v : Byte) (s : State) (h : 0x7FFF < x.toNat) (h1 : x ≠ 0xFF04) (h2 : x ≠ 0xFF41)
    (h3 : x ≠ 0xFF46) (h4 : x ≠ 0xFF01) : writeByte x v s = s.setCell x.toNat v := by
  have e : ∀ c : Word, x ≠ c → x.toNat ≠ c.toNat := fun c hc he => hc (BitVec.eq_of_toNat_eq he)
  have e1 : x.toNat ≠ 0xFF04 := e 0xFF04 h1
  have e2 : x.toNat ≠ 0xFF41 := e 0xFF41 h2
  have e3 : x.toNat ≠ 0xFF46 := e 0xFF46 h3
  have e4 : x.toNat ≠ 0xFF01 := e 0xFF01 h4
  have h0 : ¬ x.toNat ≤ 0x7FFF := by omega
  simp [writeByte, h0, e1, e2, e3, e4]

/-- The ways a write can go, one per range. -/
theorem writeByte_cases (x : Word) (v : Byte) (s : State) :
    (x.toNat ≤ 0x7FFF ∧ ∃ k, k ≠ 0 ∧ writeByte x v s = { s with romBank := k }) ∨
    (x.toNat ≤ 0x7FFF ∧ writeByte x v s = s) ∨
    (x = 0xFF04 ∧ writeByte x v s = { s with div := 0 }) ∨
    (x = 0xFF41 ∧ writeByte x v s = s.setCell 0xFF41 ((v &&& 0x78) ||| (s.cell 0xFF41 &&& 0x87))) ∨
    (x = 0xFF46 ∧ writeByte x v s = oamDma v (s.setCell 0xFF46 v)) ∨
    (x = 0xFF01 ∧ ∃ o, writeByte x v s = { s.setCell 0xFF01 v with serialOut := o }) ∨
    (0x7FFF < x.toNat ∧ x ≠ 0xFF04 ∧ x ≠ 0xFF41 ∧ x ≠ 0xFF46 ∧ x ≠ 0xFF01 ∧ writeByte x v s = s.setCell x.toNat v) := by
  by_cases h0 : x.toNat ≤ 0x7FFF
  · by_cases hb : s.mbc1 = true ∧ 0x2000 ≤ x.toNat ∧ x.toNat ≤ 0x3FFF
    · refine Or.inl ⟨h0, bankSelect v, ?_, writeByte_bankSelect x v s hb⟩
      unfold bankSelect
      dsimp only
      split
      · decide
      · assumption
    · exact Or.inr (Or.inl ⟨h0, writeByte_cartridge x v s h0 hb⟩)
  · by_cases h1 : x = 0xFF04
    · subst h1; exact Or.inr (Or.inr (Or.inl ⟨rfl, rfl⟩))
    · by_cases h2 : x = 0xFF41
      · subst h2; exact Or.inr (Or.inr (Or.inr (Or.inl ⟨rfl, rfl⟩)))
      · by_cases h3 : x = 0xFF46
        · subst h3; exact Or.inr (Or.inr (Or.inr (Or.inr (Or.inl ⟨rfl, rfl⟩))))
        · by_cases h4 : x = 0xFF01
          · subst h4
            exact Or.inr (Or.inr (Or.inr (Or.inr (Or.inr (Or.inl ⟨rfl, _, writeByte_serial v s⟩)))))
          · exact Or.inr (Or.inr (Or.inr (Or.inr (Or.inr (Or.inr
              ⟨by omega, h1, h2, h3, h4, writeByte_plain x v s (by omega) h1 h2 h3 h4⟩)))))

/-! ## The OAM copy -/

/-- A fold over a list keeps what each step keeps. -/
theorem foldl_keeps {β γ : Type} (P : γ → Prop) (g : γ → β → γ) (xs : List β) (s : γ)
    (h0 : P s) (h : ∀ t b, b ∈ xs → P t → P (g t b)) : P (xs.foldl g s) := by
  induction xs generalizing s with
  | nil => exact h0
  | cons x xs ih =>
    exact ih (g s x) (h s x (by simp) h0) (fun t b hb ht => h t b (by simp [hb]) ht)

/-- The copy keeps memory canonical. -/
theorem oamDma_wf (v : Byte) (s : State) (h : s.mem.wf = true) : (oamDma v s).mem.wf = true := by
  refine foldl_keeps (fun t : State => t.mem.wf = true) (oamDmaByte v) _ s h (fun t b hb ht => ?_)
  have := List.mem_range.1 hb
  exact State.setCell_wf t _ _ ht (by omega)

/-- The copy changes no cell outside OAM. -/
theorem oamDma_cell_other (v : Byte) (s : State) (y : Nat) (h : y < 0xFE00 ∨ 0xFE9F < y) :
    (oamDma v s).cell y = s.cell y := by
  refine foldl_keeps (fun t : State => t.cell y = s.cell y) (oamDmaByte v) _ s rfl (fun t b hb ht => ?_)
  have := List.mem_range.1 hb
  rw [← ht]
  exact State.cell_setCell_other t _ _ _ (by omega)

/-- A read outside OAM does not see the copy. -/
theorem readByte_oamDma_other (v : Byte) (s : State) (x : Word) (h : x.toNat < 0xFE00 ∨ 0xFE9F < x.toNat) :
    readByte (oamDma v s) x = readByte s x := by
  unfold readByte overlayOn bootByte bankedRead bankedIndex joypadRead
  rw [oamDma_cell_other v s x.toNat h, oamDma_cell_other v s addrJOYP (by decide), oamDma_cell_other v s addrBOOT (by decide)]
  simp

/-! ## A write keeps memory canonical and the rest of the invariant's fields -/

/-- A bus write keeps memory canonical. -/
theorem writeByte_wf (x : Word) (v : Byte) (s : State) (h : s.mem.wf = true) : (writeByte x v s).mem.wf = true := by
  have hx := x.isLt
  rcases writeByte_cases x v s with ⟨_, k, _, e⟩ | ⟨_, e⟩ | ⟨_, e⟩ | ⟨_, e⟩ | ⟨_, e⟩ | ⟨_, o, e⟩ | ⟨_, _, _, _, _, e⟩
  · rw [e]; exact h
  · rw [e]; exact h
  · rw [e]; exact h
  · rw [e]; exact State.setCell_wf s _ _ h (by decide)
  · rw [e]; exact oamDma_wf v _ (State.setCell_wf s _ _ h (by decide))
  · rw [e]; exact State.setCell_wf s _ _ h (by decide)
  · rw [e]; exact State.setCell_wf s _ _ h hx

/-- A bus write never leaves bank 0 selected. -/
theorem writeByte_romBank_ne_zero (x : Word) (v : Byte) (s : State) (h : s.romBank ≠ 0) : (writeByte x v s).romBank ≠ 0 := by
  rcases writeByte_cases x v s with ⟨_, k, hk, e⟩ | ⟨_, e⟩ | ⟨_, e⟩ | ⟨_, e⟩ | ⟨_, e⟩ | ⟨_, o, e⟩ | ⟨_, _, _, _, _, e⟩
  · rw [e]; exact hk
  · rw [e]; exact h
  · rw [e]; exact h
  · rw [e]; exact h
  · rw [e]; simpa using h
  · rw [e]; exact h
  · rw [e]; exact h

/-- A bus write changes no cell of the cartridge area (20_memory R121). -/
theorem writeByte_cell_rom (x : Word) (v : Byte) (s : State) (y : Nat) (hy : y < 0x8000) :
    (writeByte x v s).cell y = s.cell y := by
  have g : ∀ (c : Nat) (w : Byte), 0x8000 ≤ c → (s.setCell c w).cell y = s.cell y :=
    fun c w hc => State.cell_setCell_other s c y w (by omega)
  rcases writeByte_cases x v s with ⟨_, k, _, e⟩ | ⟨_, e⟩ | ⟨_, e⟩ | ⟨_, e⟩ | ⟨_, e⟩ | ⟨_, o, e⟩ | ⟨hx, _, _, _, _, e⟩
  · (rw [e]; try rfl)
  · (rw [e]; try rfl)
  · (rw [e]; try rfl)
  · rw [e]; exact g _ _ (by decide)
  · rw [e]; rw [oamDma_cell_other v _ y (by omega)]; exact g _ _ (by decide)
  · rw [e]; exact g 0xFF01 v (by decide)
  · rw [e]; exact g _ _ (by omega)

/-- A bus write changes no cell but its own, and OAM when it starts a copy. -/
theorem writeByte_cell_other (x : Word) (v : Byte) (s : State) (y : Nat) (h : y ≠ x.toNat)
    (hd : x = 0xFF46 → y < 0xFE00 ∨ 0xFE9F < y) : (writeByte x v s).cell y = s.cell y := by
  rcases writeByte_cases x v s with ⟨_, k, _, e⟩ | ⟨_, e⟩ | ⟨_, e⟩ | ⟨hx, e⟩ | ⟨hx, e⟩ | ⟨hx, o, e⟩ | ⟨_, _, _, _, _, e⟩
  · (rw [e]; try rfl)
  · (rw [e]; try rfl)
  · (rw [e]; try rfl)
  · rw [e]; subst hx; exact State.cell_setCell_other s _ _ _ h
  · rw [e]; rw [oamDma_cell_other v _ y (hd hx)]; subst hx; exact State.cell_setCell_other s _ _ _ h
  · rw [e]; subst hx; exact State.cell_setCell_other s 0xFF01 _ _ h
  · rw [e]; exact State.cell_setCell_other s _ _ _ h

/-- A bus write does not change STAT bit 7 (10_state R76). -/
theorem writeByte_stat7 (x : Word) (v : Byte) (s : State) (h : s.mem.wf = true) :
    ((writeByte x v s).cell 0xFF41).getLsbD 7 = (s.cell 0xFF41).getLsbD 7 := by
  by_cases hx : x = 0xFF41
  · subst hx
    rw [writeByte_stat, State.cell_setCell_same s _ _ h]
    simp
  · rw [writeByte_cell_other x v s 0xFF41 (fun e => hx (BitVec.eq_of_toNat_eq e.symm)) (fun _ => Or.inr (by decide))]

/-! ## A write does not look at the registers

`regsOf s t` is `t` with the fields a bus write neither reads nor writes taken from `s`; writes commute with it. -/

/-- `t` with the CPU's own fields taken from `s`. -/
def regsOf (s t : State) : State :=
  { t with
    a := s.a, f := s.f, b := s.b, c := s.c, d := s.d, e := s.e, h := s.h, l := s.l, sp := s.sp, pc := s.pc, ime := s.ime,
    halted := s.halted, stopped := s.stopped, eiPending := s.eiPending, haltBug := s.haltBug, fault := s.fault,
    cycles := s.cycles }

@[simp] theorem regsOf_cell (s t : State) (x : Nat) : (regsOf s t).cell x = t.cell x := rfl
@[simp] theorem readByte_regsOf (s t : State) (x : Word) : readByte (regsOf s t) x = readByte t x := rfl

theorem oamDma_regsOf (v : Byte) (s t : State) : oamDma v (regsOf s t) = regsOf s (oamDma v t) := by
  have h : ∀ xs : List Nat, ∀ t : State, xs.foldl (oamDmaByte v) (regsOf s t) = regsOf s (xs.foldl (oamDmaByte v) t) := by
    intro xs
    induction xs with
    | nil => intro t; rfl
    | cons x xs ih =>
      intro t
      have : oamDmaByte v (regsOf s t) x = regsOf s (oamDmaByte v t x) := rfl
      rw [List.foldl_cons, List.foldl_cons, this, ih]
  exact h _ t

/-- A bus write commutes with any change of the CPU's own fields. -/
theorem writeByte_regsOf (x : Word) (v : Byte) (s t : State) : writeByte x v (regsOf s t) = regsOf s (writeByte x v t) := by
  by_cases h0 : x.toNat ≤ 0x7FFF
  · by_cases hb : t.mbc1 = true ∧ 0x2000 ≤ x.toNat ∧ x.toNat ≤ 0x3FFF
    · rw [writeByte_bankSelect x v t hb, writeByte_bankSelect x v (regsOf s t) hb]; rfl
    · rw [writeByte_cartridge x v t h0 hb, writeByte_cartridge x v (regsOf s t) h0 hb]
  · by_cases h1 : x = 0xFF04
    · subst h1; rfl
    · by_cases h2 : x = 0xFF41
      · subst h2; rfl
      · by_cases h3 : x = 0xFF46
        · subst h3; exact oamDma_regsOf v s (t.setCell 0xFF46 v)
        · by_cases h4 : x = 0xFF01
          · subst h4; rw [writeByte_serial, writeByte_serial]; rfl
          · rw [writeByte_plain x v t (by omega) h1 h2 h3 h4, writeByte_plain x v (regsOf s t) (by omega) h1 h2 h3 h4]; rfl

/-- Writing and charging commute. -/
theorem writeByte_charge (x : Word) (v : Byte) (s : State) (n : Nat) :
    (writeByte x v s).charge n = writeByte x v (s.charge n) := by
  have h := writeByte_regsOf x v (s.charge n) s
  have e : regsOf (s.charge n) s = s.charge n := rfl
  rw [e] at h
  rw [h]
  obtain ⟨m, k, d, o, w⟩ := writeByte_only x v s
  rw [w]; rfl

/-- A write leaves every other address reading as before, unless it starts a DMA, ends the boot overlay or selects a bank. -/
theorem readByte_writeByte_other (x y : Word) (v : Byte) (s : State) (h1 : y ≠ x)
    (h2 : x = 0xFF46 → 0xFE00 ≤ y.toNat → 0xFE9F < y.toNat)
    (h3 : x = 0xFF50 → y.toNat < 0x100 → s.bootRom = none)
    (h4 : s.mbc1 = true → 0x2000 ≤ x.toNat → x.toNat ≤ 0x3FFF → 0x4000 ≤ y.toNat → 0x7FFF < y.toNat) :
    readByte (writeByte x v s) y = readByte s y := by
  have hy : y.toNat ≠ x.toNat := fun e => h1 (BitVec.eq_of_toNat_eq e)
  have hc : ∀ c : Nat, c ≠ x.toNat → (c < 0xFE00 ∨ 0xFE9F < c) → (writeByte x v s).cell c = s.cell c := fun c h h' => writeByte_cell_other x v s c h (fun _ => h')
  have hcy : (writeByte x v s).cell y.toNat = s.cell y.toNat := writeByte_cell_other x v s _ hy (fun e => by have := h2 e; omega)
  have ov : y.toNat < 0x100 → overlayOn (writeByte x v s) = overlayOn s := by
    intro hy1
    unfold overlayOn
    rw [writeByte_bootRom]
    by_cases hx : x = 0xFF50
    · rw [h3 hx hy1]; rfl
    · rw [hc addrBOOT (fun e => hx (BitVec.eq_of_toNat_eq e.symm)) (by decide)]
  unfold readByte
  by_cases hA : y.toNat < 0x100 ∧ overlayOn s = true
  · rw [if_pos hA, if_pos ⟨hA.1, by rw [ov hA.1]; exact hA.2⟩]; unfold bootByte; rw [writeByte_bootRom]
  · rw [if_neg hA, if_neg (fun h => hA ⟨h.1, by rw [← ov h.1]; exact h.2⟩)]
    rw [writeByte_mbc1]
    by_cases hB : 0x4000 ≤ y.toNat ∧ y.toNat ≤ 0x7FFF ∧ s.mbc1 = true
    · rw [if_pos hB, if_pos hB]
      have hk : (writeByte x v s).romBank = s.romBank := by
        by_cases hx : x.toNat ≤ 0x7FFF
        · by_cases hb : s.mbc1 = true ∧ 0x2000 ≤ x.toNat ∧ x.toNat ≤ 0x3FFF
          · have := h4 hb.1 hb.2.1 hb.2.2 hB.1; omega
          · rw [writeByte_cartridge x v s hx hb]
        · rcases writeByte_cases x v s with ⟨hx', _⟩ | ⟨hx', _⟩ | ⟨_, e⟩ | ⟨_, e⟩ | ⟨_, e⟩ | ⟨_, o, e⟩ | ⟨_, _, _, _, _, e⟩
          · exact absurd hx' hx
          · exact absurd hx' hx
          all_goals rw [e]
          all_goals simp
      unfold bankedRead bankedIndex
      rw [hk, writeByte_rom]
    · rw [if_neg hB, if_neg hB]
      by_cases hC : y.toNat = addrJOYP
      · rw [if_pos hC, if_pos hC]; unfold joypadRead
        rw [← hC, hcy, writeByte_buttons]
      · rw [if_neg hC, if_neg hC]
        by_cases hD : y.toNat = addrDIV
        · rw [if_pos hD, if_pos hD]
          have : (writeByte x v s).div = s.div := by
            rcases writeByte_cases x v s with ⟨_, k, _, e⟩ | ⟨_, e⟩ | ⟨hx, e⟩ | ⟨_, e⟩ | ⟨_, e⟩ | ⟨_, o, e⟩ | ⟨_, _, _, _, _, e⟩
            · rw [e]
            · rw [e]
            · exact absurd (by rw [hx, hD]; rfl) hy
            all_goals rw [e]
            all_goals simp
          rw [this]
        · rw [if_neg hD, if_neg hD, hcy]

end Sys2Proof.Machine
end

