-- ==== Sys2Proof/Laws/Boot.lean ====
section
/-! SUPPORT. The load of an image and the raw cell writes of the post-boot table (20_memory R104; 70_reset R601, R610). -/

namespace Sys2Proof.Machine

theorem storeBytes_wf (vs : List Byte) : ∀ (x : Nat) (m : Memory), m.wf = true → x + vs.length ≤ 65536 →
    (storeBytes x vs m).wf = true := by
  induction vs with
  | nil => intro x m h _; exact h
  | cons v vs ih =>
    intro x m h hx
    rw [List.length_cons] at hx
    exact ih _ _ (Memory.write_wf m x v h (by omega)) (by omega)

/-- Reading after a run of bytes is stored. -/
theorem read_storeBytes (vs : List Byte) : ∀ (x : Nat) (m : Memory) (y : Nat), m.wf = true → x + vs.length ≤ 65536 →
    (storeBytes x vs m).read y = if x ≤ y ∧ y < x + vs.length then vs.getD (y - x) 0 else m.read y := by
  induction vs with
  | nil => intro x m y _ _; rw [if_neg (fun h => absurd h.2 (by simpa using h.1))]; rfl
  | cons v vs ih =>
    intro x m y h hx
    rw [List.length_cons] at hx
    rw [storeBytes, ih _ _ _ (Memory.write_wf m x v h (by omega)) (by omega), List.length_cons]
    by_cases e : y = x
    · subst e
      rw [if_neg (by omega), if_pos (by omega), Memory.read_write_same m y v h]; simp
    · rw [Memory.read_write_other m x y v e]
      by_cases c : x + 1 ≤ y ∧ y < x + 1 + vs.length
      · rw [if_pos c, if_pos (by omega)]
        obtain ⟨k, rfl⟩ : ∃ k, y = x + 1 + k := ⟨y - (x + 1), by omega⟩
        have a : x + 1 + k - (x + 1) = k := by omega
        have b : x + 1 + k - x = k + 1 := by omega
        rw [a, b]; rfl
      · rw [if_neg c, if_neg (by omega)]

/-- A run of raw cell writes leaves whatever one raw cell write leaves (70_reset R610). -/
theorem foldl_setCell_keeps {α : Type} (f : State → α) (hf : ∀ s x v, f (State.setCell s x v) = f s) (ps : List (Nat × Byte)) :
    ∀ s : State, f (ps.foldl (fun t p => t.setCell p.1 p.2) s) = f s := by
  induction ps with
  | nil => intro s; rfl
  | cons p ps ih => intro s; rw [List.foldl_cons, ih, hf]

/-- After a load the first 32 KiB of the image lie at address 0, and nothing else is there (20_memory R104). -/
theorem loadRom_cell (image : List Byte) (cfg : Config) (y : Nat) :
    (loadRom image (State.powerOn cfg)).cell y = if y < 0x8000 then image.getD y 0 else 0 := by
  unfold loadRom State.cell
  dsimp only
  rw [read_storeBytes _ _ _ _ rfl (by rw [List.length_take]; omega), List.length_take]
  by_cases h : y < 0x8000
  · rw [if_pos h]
    by_cases g : y < image.length
    · rw [if_pos (by omega)]; simp [List.getD_eq_getElem?_getD, h]
    · rw [if_neg (by omega)]
      rw [List.getD_eq_getElem?_getD, List.getElem?_eq_none (by omega)]; rfl
  · rw [if_neg h, if_neg (by omega)]; rfl

theorem foldl_setCell_cell_other (ps : List (Nat × Byte)) (y : Nat) : ∀ s : State, (∀ p ∈ ps, p.1 ≠ y) →
    (ps.foldl (fun t p => t.setCell p.1 p.2) s).cell y = s.cell y := by
  induction ps with
  | nil => intro s _; rfl
  | cons p ps ih =>
    intro s h
    rw [List.foldl_cons, ih _ (fun q hq => h q (by simp [hq]))]
    exact State.cell_setCell_other s _ _ _ (fun k => h p (by simp) k.symm)

/-- After raw writes to distinct cells each holds its value. -/
theorem foldl_setCell_cell_same (ps : List (Nat × Byte)) : ∀ s : State, s.mem.wf = true → (∀ p ∈ ps, p.1 < 65536) →
    (ps.map Prod.fst).Nodup → ∀ p ∈ ps, (ps.foldl (fun t p => t.setCell p.1 p.2) s).cell p.1 = p.2 := by
  induction ps with
  | nil => intro s _ _ _ p hp; cases hp
  | cons q ps ih =>
    intro s h hb hn p hp
    rw [List.foldl_cons]
    rw [List.map_cons, List.nodup_cons] at hn
    rcases List.mem_cons.1 hp with rfl | hp
    · rw [foldl_setCell_cell_other ps _ _ (fun r hr k => hn.1 (List.mem_map.2 ⟨r, hr, k⟩))]
      exact State.cell_setCell_same s _ _ h
    · exact ih _ (State.setCell_wf s _ _ h (hb q (by simp))) (fun r hr => hb r (by simp [hr])) hn.2 p hp

end Sys2Proof.Machine
end

