-- ==== Sys2Proof/Laws/Devices.lean ====
section
/-! SUPPORT. The timer, the PPU and the device advance: the cells they can change, and that they keep memory and frames
canonical and the PPU's position in range. -/

namespace Sys2Proof.Machine

/-! ## The timer -/

theorem requestInterrupt_wf (k : Nat) (s : State) (h : s.mem.wf = true) : (requestInterrupt k s).mem.wf = true :=
  State.setCell_wf s _ _ h (by decide)

theorem requestInterrupt_cell (k : Nat) (s : State) (y : Nat) (h : y ≠ 0xFF0F) : (requestInterrupt k s).cell y = s.cell y :=
  State.cell_setCell_other s _ _ _ h

theorem timaTick_wf (s : State) (h : s.mem.wf = true) : (timaTick s).mem.wf = true := by
  unfold timaTick
  dsimp only
  split
  · exact requestInterrupt_wf _ _ (State.setCell_wf s _ _ h (by decide))
  · exact State.setCell_wf s _ _ h (by decide)

theorem timaTick_cell (s : State) (y : Nat) (h1 : y ≠ 0xFF05) (h2 : y ≠ 0xFF0F) : (timaTick s).cell y = s.cell y := by
  unfold timaTick
  dsimp only
  split
  · rw [requestInterrupt_cell _ _ _ h2, State.cell_setCell_other _ _ _ _ h1]
  · rw [State.cell_setCell_other _ _ _ _ h1]

theorem timerCycle_wf (s : State) (h : s.mem.wf = true) : (timerCycle s).mem.wf = true := by
  unfold timerCycle
  dsimp only
  split
  · exact timaTick_wf _ h
  · exact h

/-- The timer changes no cell but TIMA and IF. -/
theorem timerCycle_cell (s : State) (y : Nat) (h1 : y ≠ 0xFF05) (h2 : y ≠ 0xFF0F) : (timerCycle s).cell y = s.cell y := by
  unfold timerCycle
  dsimp only
  split
  · rw [timaTick_cell _ _ h1 h2]; rfl
  · rfl

/-! ## The PPU -/

/-- The four stages of a dot, named. -/
def ppuEntered (s : State) : State := if s.dot = 0 then lineStart s else s

/-- See `ppuEntered`. -/
def ppuDrawn (s : State) : State :=
  if s.line < visibleLines ∧ s.dot = s.cfg.renderDot then renderLine s.line s else s

theorem ppuDot_eq (s : State) : ppuDot s = nextDot (updateStat (ppuDrawn (ppuEntered s))) := rfl

theorem lineStart_wf (s : State) (h : s.mem.wf = true) : (lineStart s).mem.wf = true := by
  have h1 := State.setCell_wf s addrLY (BitVec.ofNat 8 s.line) h (by decide)
  unfold lineStart vblank requestInterrupt
  dsimp only
  split <;> split <;> first | exact h1 | exact State.setCell_wf _ _ _ h1 (by decide)

theorem lineStart_cell (s : State) (y : Nat) (h1 : y ≠ 0xFF44) (h2 : y ≠ 0xFF0F) : (lineStart s).cell y = s.cell y := by
  have h := State.cell_setCell_other s addrLY y (BitVec.ofNat 8 s.line) h1
  unfold lineStart vblank
  dsimp only
  split <;> split <;> first | exact h | (rw [requestInterrupt_cell _ _ _ h2]; exact h)

theorem ppuEntered_wf (s : State) (h : s.mem.wf = true) : (ppuEntered s).mem.wf = true := by
  unfold ppuEntered; split
  · exact lineStart_wf s h
  · exact h

theorem ppuEntered_cell (s : State) (y : Nat) (h1 : y ≠ 0xFF44) (h2 : y ≠ 0xFF0F) : (ppuEntered s).cell y = s.cell y := by
  unfold ppuEntered; split
  · exact lineStart_cell s y h1 h2
  · rfl

@[simp] theorem ppuEntered_dot (s : State) : (ppuEntered s).dot = s.dot := by unfold ppuEntered; split <;> simp
@[simp] theorem ppuEntered_line (s : State) : (ppuEntered s).line = s.line := by unfold ppuEntered; split <;> simp
@[simp] theorem ppuEntered_cfg (s : State) : (ppuEntered s).cfg = s.cfg := by unfold ppuEntered; split <;> simp
@[simp] theorem ppuEntered_framebuffer (s : State) : (ppuEntered s).framebuffer = s.framebuffer := by
  unfold ppuEntered; split <;> simp
@[simp] theorem ppuEntered_statLine (s : State) : (ppuEntered s).statLine = s.statLine := by
  unfold ppuEntered; split <;> simp

/-- A frame is presented only whole, at the vertical blank. -/
theorem ppuEntered_presented (s : State) :
    (ppuEntered s).presented = if s.dot = 0 ∧ s.line = 144 then s.framebuffer else s.presented := by
  unfold ppuEntered lineStart vblank requestInterrupt
  by_cases hd : s.dot = 0
  · by_cases hl : s.line = 144
    · simp [hd, hl]
    · by_cases h0 : s.line = 0 <;> simp [hd, hl, h0]
  · simp [hd]

/-- Frames are counted at the vertical blank. -/
theorem ppuEntered_frameCount (s : State) :
    (ppuEntered s).frameCount = if s.dot = 0 ∧ s.line = 144 then s.frameCount + 1 else s.frameCount := by
  unfold ppuEntered lineStart vblank requestInterrupt
  by_cases hd : s.dot = 0
  · by_cases hl : s.line = 144
    · simp [hd, hl]
    · by_cases h0 : s.line = 0 <;> simp [hd, hl, h0]
  · simp [hd]

@[simp] theorem ppuDrawn_mem (s : State) : (ppuDrawn s).mem = s.mem := by unfold ppuDrawn; split <;> simp
@[simp] theorem ppuDrawn_dot (s : State) : (ppuDrawn s).dot = s.dot := by unfold ppuDrawn; split <;> simp
@[simp] theorem ppuDrawn_line (s : State) : (ppuDrawn s).line = s.line := by unfold ppuDrawn; split <;> simp
@[simp] theorem ppuDrawn_frameCount (s : State) : (ppuDrawn s).frameCount = s.frameCount := by
  unfold ppuDrawn; split <;> simp
@[simp] theorem ppuDrawn_presented (s : State) : (ppuDrawn s).presented = s.presented := by
  unfold ppuDrawn; split <;> simp
@[simp] theorem ppuDrawn_statLine (s : State) : (ppuDrawn s).statLine = s.statLine := by
  unfold ppuDrawn; split <;> simp
@[simp] theorem ppuDrawn_cell (s : State) (y : Nat) : (ppuDrawn s).cell y = s.cell y := by
  rw [State.cell_def, ppuDrawn_mem]; rfl

/-- A drawn line has 160 shades. -/
theorem lineShades_length (s : State) (L : Nat) : (lineShades s L).length = visibleWidth := by
  unfold lineShades
  split
  · exact List.length_replicate
  · rw [List.length_map, List.length_range]

theorem ppuDrawn_framebuffer_wf (s : State) (h : s.framebuffer.wf = true) : (ppuDrawn s).framebuffer.wf = true := by
  unfold ppuDrawn
  split
  · next hl => exact Frame.setRow_wf _ _ _ h hl.1 (lineShades_length s s.line)
  · exact h

theorem updateStat_wf (s : State) (h : s.mem.wf = true) : (updateStat s).mem.wf = true := by
  have h1 := fun v => State.setCell_wf s addrSTAT v h (by decide)
  unfold updateStat
  dsimp only
  split
  · exact requestInterrupt_wf _ _ (h1 _)
  · exact h1 _

theorem updateStat_cell (s : State) (y : Nat) (h1 : y ≠ 0xFF41) (h2 : y ≠ 0xFF0F) : (updateStat s).cell y = s.cell y := by
  have h := fun v => State.cell_setCell_other s addrSTAT y v h1
  have h' := fun v => requestInterrupt_cell 1 (s.setCell addrSTAT v) y h2
  unfold updateStat
  dsimp only
  split
  · exact (h' _).trans (h _)
  · exact h _

/-- STAT after the PPU's update: bits 7 to 3 kept, bit 2 the coincidence, bits 1 and 0 the mode (60 R575). -/
theorem updateStat_stat (s : State) (h : s.mem.wf = true) : (updateStat s).cell 0xFF41 =
    (s.cell 0xFF41 &&& 0xF8) |||
      (BitVec.ofBool (decide (s.line = (s.cell addrLYC).toNat)) ++ ppuMode s.line s.dot).setWidth 8 := by
  have h1 := fun v => State.cell_setCell_same s addrSTAT v h
  have h' := fun v => requestInterrupt_cell 1 (s.setCell addrSTAT v) 0xFF41 (by decide)
  unfold updateStat
  dsimp only
  split
  · exact (h' _).trans (h1 _)
  · exact h1 _

theorem updateStat_stat7 (s : State) (h : s.mem.wf = true) :
    ((updateStat s).cell 0xFF41).getLsbD 7 = (s.cell 0xFF41).getLsbD 7 := by
  rw [updateStat_stat s h]
  generalize decide (s.line = (s.cell addrLYC).toNat) = c
  generalize ppuMode s.line s.dot = m
  generalize s.cell 0xFF41 = v
  have e : ∀ (c : Bool) (m : BitVec 2), ((BitVec.ofBool c ++ m).setWidth 8 : Byte).getLsbD 7 = false := by decide
  rw [BitVec.getLsbD_or, BitVec.getLsbD_and, e c m]
  simp

/-- The next position, in dots from the start of the frame. -/
theorem nextDot_position (s : State) (h1 : s.dot < 456) (h2 : s.line < 154) :
    (nextDot s).line * 456 + (nextDot s).dot = (s.line * 456 + s.dot + 1) % 70224 ∧ (nextDot s).dot < 456 ∧
      (nextDot s).line < 154 := by
  unfold nextDot dotsPerLine linesPerFrame
  split
  · refine ⟨?_, by dsimp only; omega, Nat.mod_lt _ (by decide)⟩
    dsimp only
    omega
  · refine ⟨?_, by dsimp only; omega, h2⟩
    dsimp only
    omega

theorem ppuDot_wf (s : State) (h : s.mem.wf = true) : (ppuDot s).mem.wf = true := by
  rw [ppuDot_eq, nextDot_mem]
  exact updateStat_wf _ (by rw [ppuDrawn_mem]; exact ppuEntered_wf s h)

/-- The PPU changes no cell but LY, STAT and IF. -/
theorem ppuDot_cell (s : State) (y : Nat) (h1 : y ≠ 0xFF44) (h2 : y ≠ 0xFF41) (h3 : y ≠ 0xFF0F) :
    (ppuDot s).cell y = s.cell y := by
  rw [ppuDot_eq, State.cell_def, nextDot_mem, ← State.cell_def, updateStat_cell _ _ h2 h3, ppuDrawn_cell,
    ppuEntered_cell _ _ h1 h3]

theorem ppuDot_stat7 (s : State) (h : s.mem.wf = true) :
    ((ppuDot s).cell 0xFF41).getLsbD 7 = (s.cell 0xFF41).getLsbD 7 := by
  rw [ppuDot_eq, State.cell_def, nextDot_mem, ← State.cell_def,
    updateStat_stat7 _ (by rw [ppuDrawn_mem]; exact ppuEntered_wf s h), ppuDrawn_cell,
    ppuEntered_cell _ _ (by decide) (by decide)]

/-- One dot moves the position by one. -/
theorem ppuDot_position (s : State) (h1 : s.dot < 456) (h2 : s.line < 154) :
    (ppuDot s).line * 456 + (ppuDot s).dot = (s.line * 456 + s.dot + 1) % 70224 ∧ (ppuDot s).dot < 456 ∧
      (ppuDot s).line < 154 := by
  rw [ppuDot_eq]
  have := nextDot_position (updateStat (ppuDrawn (ppuEntered s))) (by simpa using h1) (by simpa using h2)
  simpa using this

theorem ppuDot_framebuffer_wf (s : State) (h : s.framebuffer.wf = true) : (ppuDot s).framebuffer.wf = true := by
  rw [ppuDot_eq, nextDot_framebuffer, updateStat_framebuffer]
  exact ppuDrawn_framebuffer_wf _ (by rw [ppuEntered_framebuffer]; exact h)

theorem ppuDot_presented_wf (s : State) (h : s.framebuffer.wf = true) (hp : s.presented.wf = true) :
    (ppuDot s).presented.wf = true := by
  rw [ppuDot_eq, nextDot_presented, updateStat_presented, ppuDrawn_presented, ppuEntered_presented]
  split
  · exact h
  · exact hp

theorem ppuDot_frameCount (s : State) :
    (ppuDot s).frameCount = if s.dot = 0 ∧ s.line = 144 then s.frameCount + 1 else s.frameCount := by
  rw [ppuDot_eq, nextDot_frameCount, updateStat_frameCount, ppuDrawn_frameCount, ppuEntered_frameCount]

/-! ## The device advance -/

/-- What every device cycle keeps, the advance keeps. -/
theorem advance_keeps (P : State → Prop) (hP : ∀ s, P s → P (ppuDot (timerCycle s))) (n : Nat) (s : State) (h : P s) :
    P (advance n s) := by
  induction n generalizing s with
  | zero => exact h
  | succ n ih => exact ih _ (hP s h)

theorem advance_wf (n : Nat) (s : State) (h : s.mem.wf = true) : (advance n s).mem.wf = true :=
  advance_keeps (fun t => t.mem.wf = true) (fun t ht => ppuDot_wf _ (timerCycle_wf t ht)) n s h

/-- The devices change no cell but TIMA, IF, LY and STAT. -/
theorem advance_cell (n : Nat) (s : State) (y : Nat) (h1 : y ≠ 0xFF44) (h2 : y ≠ 0xFF41) (h3 : y ≠ 0xFF0F)
    (h4 : y ≠ 0xFF05) : (advance n s).cell y = s.cell y :=
  advance_keeps (fun t => t.cell y = s.cell y)
    (fun t ht => by rw [ppuDot_cell _ _ h1 h2 h3, timerCycle_cell _ _ h4 h3]; exact ht) n s rfl

theorem advance_stat7 (n : Nat) (s : State) (h : s.mem.wf = true) :
    ((advance n s).cell 0xFF41).getLsbD 7 = (s.cell 0xFF41).getLsbD 7 :=
  (advance_keeps (fun t => t.mem.wf = true ∧ (t.cell 0xFF41).getLsbD 7 = (s.cell 0xFF41).getLsbD 7)
    (fun t ht => ⟨ppuDot_wf _ (timerCycle_wf t ht.1), by
      rw [ppuDot_stat7 _ (timerCycle_wf t ht.1), timerCycle_cell _ _ (by decide) (by decide)]; exact ht.2⟩) n s ⟨h, rfl⟩).2

theorem advance_dot_line (n : Nat) (s : State) (h1 : s.dot < 456) (h2 : s.line < 154) :
    (advance n s).dot < 456 ∧ (advance n s).line < 154 :=
  advance_keeps (fun t => t.dot < 456 ∧ t.line < 154)
    (fun t ht => (ppuDot_position (timerCycle t) (by simpa using ht.1) (by simpa using ht.2)).2) n s ⟨h1, h2⟩

theorem advance_frames_wf (n : Nat) (s : State) (h : s.framebuffer.wf = true) (hp : s.presented.wf = true) :
    (advance n s).framebuffer.wf = true ∧ (advance n s).presented.wf = true :=
  advance_keeps (fun t => t.framebuffer.wf = true ∧ t.presented.wf = true)
    (fun t ht => ⟨ppuDot_framebuffer_wf _ (by simpa using ht.1),
      ppuDot_presented_wf _ (by simpa using ht.1) (by simpa using ht.2)⟩) n s ⟨h, hp⟩

/-- Bit `b` of a word falls when it counts up exactly when the new value is a multiple of 2^(b+1) (60_exceptions R561). -/
theorem falling_edge (d : Word) (b : Nat) (hb : b < 16) :
    (d.getLsbD b = true ∧ (d + 1).getLsbD b = false) ↔ (d.toNat + 1) % 2 ^ (b + 1) = 0 := by
  have := d.isLt
  simp only [BitVec.getLsbD, BitVec.toNat_add, Nat.testBit, Nat.shiftRight_eq_div_pow]
  interval_cases b <;> simp <;> omega

end Sys2Proof.Machine
end

