-- ==== Sys2Proof/Laws/Flags.lean ====
section
/-! SUPPORT. The flag register and the flag computations, in plain arithmetic. -/

namespace Sys2Proof.Machine

theorem flagZ_packFlags (z n h c : Bool) : (packFlags z n h c).getLsbD 7 = z := by
  cases z <;> cases n <;> cases h <;> cases c <;> rfl

theorem flagN_packFlags (z n h c : Bool) : (packFlags z n h c).getLsbD 6 = n := by
  cases z <;> cases n <;> cases h <;> cases c <;> rfl

theorem flagH_packFlags (z n h c : Bool) : (packFlags z n h c).getLsbD 5 = h := by
  cases z <;> cases n <;> cases h <;> cases c <;> rfl

theorem flagC_packFlags (z n h c : Bool) : (packFlags z n h c).getLsbD 4 = c := by
  cases z <;> cases n <;> cases h <;> cases c <;> rfl

@[simp] theorem State.flagZ_putFlags (s : State) (z n h c : Bool) : (s.putFlags z n h c).flagZ = z := flagZ_packFlags z n h c
@[simp] theorem State.flagN_putFlags (s : State) (z n h c : Bool) : (s.putFlags z n h c).flagN = n := flagN_packFlags z n h c
@[simp] theorem State.flagH_putFlags (s : State) (z n h c : Bool) : (s.putFlags z n h c).flagH = h := flagH_packFlags z n h c
@[simp] theorem State.flagC_putFlags (s : State) (z n h c : Bool) : (s.putFlags z n h c).flagC = c := flagC_packFlags z n h c

/-- F's low nibble is 0 after any flag write (10_state R55). -/
theorem packFlags_low (z n h c : Bool) : packFlags z n h c &&& 0x0F = 0 := by
  cases z <;> cases n <;> cases h <;> cases c <;> rfl

/-- F as a sum of its bits. -/
theorem packFlags_eq (z n h c : Bool) : packFlags z n h c =
    (if z then 0x80 else 0) ||| (if n then 0x40 else 0) ||| (if h then 0x20 else 0) ||| (if c then 0x10 else 0) := by
  cases z <;> cases n <;> cases h <;> cases c <;> rfl

/-- The sum's value (41_alu8 R200). -/
theorem add8_value (a b : Byte) (c : Bool) : (add8 a b c).value = a + b + BitVec.ofNat 8 c.toNat := by
  apply BitVec.eq_of_toNat_eq
  simp [add8, BitVec.toNat_add]

/-- The difference's value (41_alu8 R200). -/
theorem sub8_value (a b : Byte) (c : Bool) : (sub8 a b c).value = a - b - BitVec.ofNat 8 c.toNat := by
  have h : (sub8 a b c).value = BitVec.ofInt 8 (a.toNat - b.toNat - c.toNat) := rfl
  rw [h]
  have e : ((c.toNat % 2 ^ 8 : Nat) : Int) = c.toNat := by cases c <;> rfl
  apply BitVec.eq_of_toInt_eq
  rw [BitVec.toInt_ofInt, BitVec.toInt_sub, BitVec.toInt_sub, BitVec.toInt_eq_toNat_bmod a, BitVec.toInt_eq_toNat_bmod b,
    BitVec.toInt_eq_toNat_bmod (BitVec.ofNat 8 c.toNat), BitVec.toNat_ofNat, e]
  simp

/-- Adding a signed displacement (00_scope R12). -/
theorem addSigned8_eq (v : Word) (n : Byte) : addSigned8 v n = v + n.signExtend 16 := by
  apply BitVec.eq_of_toInt_eq
  rw [addSigned8, BitVec.toInt_ofInt, BitVec.toInt_add, BitVec.toInt_signExtend_of_le (by decide),
    BitVec.toInt_eq_toNat_bmod v]
  simp

/-- The rotates and shifts in arithmetic (43_rotate_shift R269). -/
theorem rot_rlc (v : Byte) (c : Bool) : rot .rlc v c = (BitVec.ofNat 8 (2 * v.toNat + v.toNat / 128), decide (128 ≤ v.toNat)) := by
  revert v; cases c <;> decide +kernel
theorem rot_rrc (v : Byte) (c : Bool) :
    rot .rrc v c = (BitVec.ofNat 8 (v.toNat / 2 + 128 * (v.toNat % 2)), decide (v.toNat % 2 = 1)) := by
  revert v; cases c <;> decide +kernel
theorem rot_rl (v : Byte) (c : Bool) : rot .rl v c = (BitVec.ofNat 8 (2 * v.toNat + c.toNat), decide (128 ≤ v.toNat)) := by
  revert v; cases c <;> decide +kernel
theorem rot_rr (v : Byte) (c : Bool) :
    rot .rr v c = (BitVec.ofNat 8 (v.toNat / 2 + 128 * c.toNat), decide (v.toNat % 2 = 1)) := by
  revert v; cases c <;> decide +kernel
theorem rot_sla (v : Byte) (c : Bool) : rot .sla v c = (BitVec.ofNat 8 (2 * v.toNat), decide (128 ≤ v.toNat)) := by
  revert v; cases c <;> decide +kernel
theorem rot_sra (v : Byte) (c : Bool) :
    rot .sra v c = (BitVec.ofNat 8 (v.toNat / 2 + 128 * (v.toNat / 128)), decide (v.toNat % 2 = 1)) := by
  revert v; cases c <;> decide +kernel
theorem rot_swap (v : Byte) (c : Bool) : rot .swap v c = (BitVec.ofNat 8 (v.toNat % 16 * 16 + v.toNat / 16), false) := by
  revert v; cases c <;> decide +kernel
theorem rot_srl (v : Byte) (c : Bool) : rot .srl v c = (BitVec.ofNat 8 (v.toNat / 2), decide (v.toNat % 2 = 1)) := by
  revert v; cases c <;> decide +kernel

/-- A word's bytes as numbers. -/
theorem hiByte_eq (v : Word) : hiByte v = BitVec.ofNat 8 (v.toNat / 256) := by
  apply BitVec.eq_of_toNat_eq; simp [hiByte, Nat.shiftRight_eq_div_pow]

theorem loByte_eq (v : Word) : loByte v = BitVec.ofNat 8 (v.toNat % 256) := by
  apply BitVec.eq_of_toNat_eq; simp [loByte]

/-- Two bytes as a number. -/
theorem toNat_append_bytes (x y : Byte) : (x ++ y : Word).toNat = x.toNat * 256 + y.toNat := by
  have h := Nat.two_pow_add_eq_or_of_lt (i := 8) y.isLt x.toNat
  rw [BitVec.toNat_append, Nat.shiftLeft_eq, Nat.mul_comm, ← h]

/-- A word is its two bytes. -/
theorem hi_lo_append (v : Word) : hiByte v ++ loByte v = v := by
  apply BitVec.eq_of_getLsbD_eq
  intro i hi
  simp only [hiByte, loByte, BitVec.getLsbD_append, BitVec.getLsbD_extractLsb']
  by_cases h : i < 8
  · simp [h]
  · have : i - 8 < 8 := by omega
    simp [h, this, show 8 + (i - 8) = i by omega]

@[simp] theorem hiByte_append (x y : Byte) : hiByte (x ++ y) = x := by
  apply BitVec.eq_of_getLsbD_eq
  intro i hi
  rw [hiByte, BitVec.getLsbD_extractLsb', BitVec.getLsbD_append]
  have h : ¬ (8 + i < 8) := by omega
  simp [h, hi]

@[simp] theorem loByte_append (x y : Byte) : loByte (x ++ y) = y := by
  apply BitVec.eq_of_getLsbD_eq
  intro i hi
  rw [loByte, BitVec.getLsbD_extractLsb', BitVec.getLsbD_append]
  simp [hi]

end Sys2Proof.Machine
end

