-- ==== Sys2Proof/Laws/Exec.lean ====
section
/-! SUPPORT. What an instruction can do, said once: every meaning retires one of the shared effects below, or is the decode
fault. Facts about all 511 instructions follow from one case per effect. -/

namespace Sys2Proof.Machine

/-- The effects the meanings are made of. -/
inductive SharedEffect : (State → State) → Prop where
  | nothing : SharedEffect id
  | aluA (op : AluOp) (operand : State → Byte) : SharedEffect (aluA op operand)
  | incR8 (r : R8) : SharedEffect (incR8 r)
  | decR8 (r : R8) : SharedEffect (decR8 r)
  | cplA : SharedEffect cplA
  | daaA : SharedEffect daaA
  | addHL (r : Reg16) : SharedEffect (addHL r)
  | incBC : SharedEffect (incR16 .bc)
  | incDE : SharedEffect (incR16 .de)
  | incHL : SharedEffect (incR16 .hl)
  | incSP : SharedEffect (incR16 .sp)
  | decBC : SharedEffect (decR16 .bc)
  | decDE : SharedEffect (decR16 .de)
  | decHL : SharedEffect (decR16 .hl)
  | decSP : SharedEffect (decR16 .sp)
  | spPlusSP (imm : Byte) : SharedEffect (spPlus .sp imm)
  | spPlusHL (imm : Byte) : SharedEffect (spPlus .hl imm)
  | rotA (op : RotOp) : SharedEffect (rotA op)
  | rotR8 (op : RotOp) (x : R8) : SharedEffect (rotR8 op x)
  | bitR8 (b : Nat) (x : R8) : SharedEffect (bitR8 b x)
  | resR8 (b : Nat) (x : R8) : SharedEffect (resR8 b x)
  | setR8 (b : Nat) (x : R8) : SharedEffect (setR8 b x)
  | jumpTo (x : Word) : SharedEffect (jumpTo x)
  | jumpHL : SharedEffect jumpHL
  | jumpRel (n : Byte) : SharedEffect (jumpRel n)
  | callTo (x : Word) : SharedEffect (callTo x)
  | returnTo : SharedEffect returnTo
  | returnFromInterrupt : SharedEffect returnFromInterrupt
  | loadR8 (y z : R8) : SharedEffect (loadR8 y z)
  | loadImm (y : R8) (n : Byte) : SharedEffect (loadImm y n)
  | loadA (m : Ea) : SharedEffect (loadA m)
  | storeA (m : Ea) : SharedEffect (storeA m)
  | loadAStep (delta : Word) : SharedEffect (loadAStep delta)
  | storeAStep (delta : Word) : SharedEffect (storeAStep delta)
  | loadBC (n : Word) : SharedEffect (loadR16 .bc n)
  | loadDE (n : Word) : SharedEffect (loadR16 .de n)
  | loadHL (n : Word) : SharedEffect (loadR16 .hl n)
  | loadSP (n : Word) : SharedEffect (loadR16 .sp n)
  | storeSP (x : Word) : SharedEffect (storeSP x)
  | loadSPHL : SharedEffect loadSPHL
  | pushR16 (r : Reg16) : SharedEffect (pushR16 r)
  | popBC : SharedEffect (popR16 .bc)
  | popDE : SharedEffect (popR16 .de)
  | popHL : SharedEffect (popR16 .hl)
  | popAF : SharedEffect (popR16 .af)
  | setCarry : SharedEffect setCarry
  | flipCarry : SharedEffect flipCarry
  | enableInterrupts : SharedEffect enableInterrupts
  | disableInterrupts : SharedEffect disableInterrupts
  | haltCpu : SharedEffect haltCpu
  | stopCpu : SharedEffect stopCpu

/-- What one instruction does at one state: it retires a shared effect, or it is the decode fault. -/
def ExecShape (i : Instr) (s : State) : Prop :=
  (i.wellFormed = true ∧ ∃ len cost eff, SharedEffect eff ∧ exec i s = retire len cost eff s) ∨
  (∃ op, i.illegalByte = some op ∧ exec i s = raiseIllegal op s)

theorem ExecShape.retires {i : Instr} {s : State} {len cost : Nat} {eff : State → State} (hw : i.wellFormed = true)
    (he : SharedEffect eff) (h : exec i s = retire len cost eff s) : ExecShape i s := .inl ⟨hw, len, cost, eff, he, h⟩

theorem ExecShape.branches {i : Instr} {s : State} {c : State → Bool} {len n y : Nat} {eff : State → State}
    (hw : i.wellFormed = true) (he : SharedEffect eff) (h : exec i s = retireIf c len n y eff s) : ExecShape i s := by
  unfold retireIf at h
  split at h
  · exact .retires hw he h
  · exact .retires hw .nothing h

theorem ExecShape.faults {i : Instr} {s : State} {op : Byte} (hw : i.illegalByte = some op)
    (h : exec i s = raiseIllegal op s) : ExecShape i s := .inr ⟨op, hw, h⟩

theorem shape_nop (s : State) : ExecShape .nop s := .retires rfl .nothing rfl
theorem shape_ld_BC_d16 (d16 : Word) (s : State) : ExecShape (.ld_BC_d16 d16) s := .retires rfl (.loadBC d16) rfl
theorem shape_ld_atBC_A (s : State) : ExecShape .ld_atBC_A s := .retires rfl (.storeA (.reg .bc)) rfl
theorem shape_inc_BC (s : State) : ExecShape .inc_BC s := .retires rfl .incBC rfl
theorem shape_inc_B (s : State) : ExecShape .inc_B s := .retires rfl (.incR8 .b) rfl
theorem shape_dec_B (s : State) : ExecShape .dec_B s := .retires rfl (.decR8 .b) rfl
theorem shape_ld_B_d8 (d8 : Byte) (s : State) : ExecShape (.ld_B_d8 d8) s := .retires rfl (.loadImm .b d8) rfl
theorem shape_rlca (s : State) : ExecShape .rlca s := .retires rfl (.rotA .rlc) rfl
theorem shape_ld_atA16_SP (a16 : Word) (s : State) : ExecShape (.ld_atA16_SP a16) s := .retires rfl (.storeSP a16) rfl
theorem shape_add_HL_BC (s : State) : ExecShape .add_HL_BC s := .retires rfl (.addHL .bc) rfl
theorem shape_ld_A_atBC (s : State) : ExecShape .ld_A_atBC s := .retires rfl (.loadA (.reg .bc)) rfl
theorem shape_dec_BC (s : State) : ExecShape .dec_BC s := .retires rfl .decBC rfl
theorem shape_inc_C (s : State) : ExecShape .inc_C s := .retires rfl (.incR8 .c) rfl
theorem shape_dec_C (s : State) : ExecShape .dec_C s := .retires rfl (.decR8 .c) rfl
theorem shape_ld_C_d8 (d8 : Byte) (s : State) : ExecShape (.ld_C_d8 d8) s := .retires rfl (.loadImm .c d8) rfl
theorem shape_rrca (s : State) : ExecShape .rrca s := .retires rfl (.rotA .rrc) rfl
theorem shape_stop (second : Byte) (s : State) : ExecShape (.stop second) s := .retires rfl .stopCpu rfl
theorem shape_ld_DE_d16 (d16 : Word) (s : State) : ExecShape (.ld_DE_d16 d16) s := .retires rfl (.loadDE d16) rfl
theorem shape_ld_atDE_A (s : State) : ExecShape .ld_atDE_A s := .retires rfl (.storeA (.reg .de)) rfl
theorem shape_inc_DE (s : State) : ExecShape .inc_DE s := .retires rfl .incDE rfl
theorem shape_inc_D (s : State) : ExecShape .inc_D s := .retires rfl (.incR8 .d) rfl
theorem shape_dec_D (s : State) : ExecShape .dec_D s := .retires rfl (.decR8 .d) rfl
theorem shape_ld_D_d8 (d8 : Byte) (s : State) : ExecShape (.ld_D_d8 d8) s := .retires rfl (.loadImm .d d8) rfl
theorem shape_rla (s : State) : ExecShape .rla s := .retires rfl (.rotA .rl) rfl
theorem shape_jr_e8 (e8 : Byte) (s : State) : ExecShape (.jr_e8 e8) s := .retires rfl (.jumpRel e8) rfl
theorem shape_add_HL_DE (s : State) : ExecShape .add_HL_DE s := .retires rfl (.addHL .de) rfl
theorem shape_ld_A_atDE (s : State) : ExecShape .ld_A_atDE s := .retires rfl (.loadA (.reg .de)) rfl
theorem shape_dec_DE (s : State) : ExecShape .dec_DE s := .retires rfl .decDE rfl
theorem shape_inc_E (s : State) : ExecShape .inc_E s := .retires rfl (.incR8 .e) rfl
theorem shape_dec_E (s : State) : ExecShape .dec_E s := .retires rfl (.decR8 .e) rfl
theorem shape_ld_E_d8 (d8 : Byte) (s : State) : ExecShape (.ld_E_d8 d8) s := .retires rfl (.loadImm .e d8) rfl
theorem shape_rra (s : State) : ExecShape .rra s := .retires rfl (.rotA .rr) rfl
theorem shape_jr_NZ_e8 (e8 : Byte) (s : State) : ExecShape (.jr_NZ_e8 e8) s := .branches rfl (.jumpRel e8) rfl
theorem shape_ld_HL_d16 (d16 : Word) (s : State) : ExecShape (.ld_HL_d16 d16) s := .retires rfl (.loadHL d16) rfl
theorem shape_ld_atHLinc_A (s : State) : ExecShape .ld_atHLinc_A s := .retires rfl (.storeAStep 1) rfl
theorem shape_inc_HL (s : State) : ExecShape .inc_HL s := .retires rfl .incHL rfl
theorem shape_inc_H (s : State) : ExecShape .inc_H s := .retires rfl (.incR8 .h) rfl
theorem shape_dec_H (s : State) : ExecShape .dec_H s := .retires rfl (.decR8 .h) rfl
theorem shape_ld_H_d8 (d8 : Byte) (s : State) : ExecShape (.ld_H_d8 d8) s := .retires rfl (.loadImm .h d8) rfl
theorem shape_daa (s : State) : ExecShape .daa s := .retires rfl .daaA rfl
theorem shape_jr_Z_e8 (e8 : Byte) (s : State) : ExecShape (.jr_Z_e8 e8) s := .branches rfl (.jumpRel e8) rfl
theorem shape_add_HL_HL (s : State) : ExecShape .add_HL_HL s := .retires rfl (.addHL .hl) rfl
theorem shape_ld_A_atHLinc (s : State) : ExecShape .ld_A_atHLinc s := .retires rfl (.loadAStep 1) rfl
theorem shape_dec_HL (s : State) : ExecShape .dec_HL s := .retires rfl .decHL rfl
theorem shape_inc_L (s : State) : ExecShape .inc_L s := .retires rfl (.incR8 .l) rfl
theorem shape_dec_L (s : State) : ExecShape .dec_L s := .retires rfl (.decR8 .l) rfl
theorem shape_ld_L_d8 (d8 : Byte) (s : State) : ExecShape (.ld_L_d8 d8) s := .retires rfl (.loadImm .l d8) rfl
theorem shape_cpl (s : State) : ExecShape .cpl s := .retires rfl .cplA rfl
theorem shape_jr_NC_e8 (e8 : Byte) (s : State) : ExecShape (.jr_NC_e8 e8) s := .branches rfl (.jumpRel e8) rfl
theorem shape_ld_SP_d16 (d16 : Word) (s : State) : ExecShape (.ld_SP_d16 d16) s := .retires rfl (.loadSP d16) rfl
theorem shape_ld_atHLdec_A (s : State) : ExecShape .ld_atHLdec_A s := .retires rfl (.storeAStep (-1)) rfl
theorem shape_inc_SP (s : State) : ExecShape .inc_SP s := .retires rfl .incSP rfl
theorem shape_inc_atHL (s : State) : ExecShape .inc_atHL s := .retires rfl (.incR8 .atHL) rfl
theorem shape_dec_atHL (s : State) : ExecShape .dec_atHL s := .retires rfl (.decR8 .atHL) rfl
theorem shape_ld_atHL_d8 (d8 : Byte) (s : State) : ExecShape (.ld_atHL_d8 d8) s := .retires rfl (.loadImm .atHL d8) rfl
theorem shape_scf (s : State) : ExecShape .scf s := .retires rfl .setCarry rfl
theorem shape_jr_C_e8 (e8 : Byte) (s : State) : ExecShape (.jr_C_e8 e8) s := .branches rfl (.jumpRel e8) rfl
theorem shape_add_HL_SP (s : State) : ExecShape .add_HL_SP s := .retires rfl (.addHL .sp) rfl
theorem shape_ld_A_atHLdec (s : State) : ExecShape .ld_A_atHLdec s := .retires rfl (.loadAStep (-1)) rfl
theorem shape_dec_SP (s : State) : ExecShape .dec_SP s := .retires rfl .decSP rfl
theorem shape_inc_A (s : State) : ExecShape .inc_A s := .retires rfl (.incR8 .a) rfl
theorem shape_dec_A (s : State) : ExecShape .dec_A s := .retires rfl (.decR8 .a) rfl
theorem shape_ld_A_d8 (d8 : Byte) (s : State) : ExecShape (.ld_A_d8 d8) s := .retires rfl (.loadImm .a d8) rfl
theorem shape_ccf (s : State) : ExecShape .ccf s := .retires rfl .flipCarry rfl
theorem shape_ld_B_B (s : State) : ExecShape .ld_B_B s := .retires rfl (.loadR8 .b .b) rfl
theorem shape_ld_B_C (s : State) : ExecShape .ld_B_C s := .retires rfl (.loadR8 .b .c) rfl
theorem shape_ld_B_D (s : State) : ExecShape .ld_B_D s := .retires rfl (.loadR8 .b .d) rfl
theorem shape_ld_B_E (s : State) : ExecShape .ld_B_E s := .retires rfl (.loadR8 .b .e) rfl
theorem shape_ld_B_H (s : State) : ExecShape .ld_B_H s := .retires rfl (.loadR8 .b .h) rfl
theorem shape_ld_B_L (s : State) : ExecShape .ld_B_L s := .retires rfl (.loadR8 .b .l) rfl
theorem shape_ld_B_atHL (s : State) : ExecShape .ld_B_atHL s := .retires rfl (.loadR8 .b .atHL) rfl
theorem shape_ld_B_A (s : State) : ExecShape .ld_B_A s := .retires rfl (.loadR8 .b .a) rfl
theorem shape_ld_C_B (s : State) : ExecShape .ld_C_B s := .retires rfl (.loadR8 .c .b) rfl
theorem shape_ld_C_C (s : State) : ExecShape .ld_C_C s := .retires rfl (.loadR8 .c .c) rfl
theorem shape_ld_C_D (s : State) : ExecShape .ld_C_D s := .retires rfl (.loadR8 .c .d) rfl
theorem shape_ld_C_E (s : State) : ExecShape .ld_C_E s := .retires rfl (.loadR8 .c .e) rfl
theorem shape_ld_C_H (s : State) : ExecShape .ld_C_H s := .retires rfl (.loadR8 .c .h) rfl
theorem shape_ld_C_L (s : State) : ExecShape .ld_C_L s := .retires rfl (.loadR8 .c .l) rfl
theorem shape_ld_C_atHL (s : State) : ExecShape .ld_C_atHL s := .retires rfl (.loadR8 .c .atHL) rfl
theorem shape_ld_C_A (s : State) : ExecShape .ld_C_A s := .retires rfl (.loadR8 .c .a) rfl
theorem shape_ld_D_B (s : State) : ExecShape .ld_D_B s := .retires rfl (.loadR8 .d .b) rfl
theorem shape_ld_D_C (s : State) : ExecShape .ld_D_C s := .retires rfl (.loadR8 .d .c) rfl
theorem shape_ld_D_D (s : State) : ExecShape .ld_D_D s := .retires rfl (.loadR8 .d .d) rfl
theorem shape_ld_D_E (s : State) : ExecShape .ld_D_E s := .retires rfl (.loadR8 .d .e) rfl
theorem shape_ld_D_H (s : State) : ExecShape .ld_D_H s := .retires rfl (.loadR8 .d .h) rfl
theorem shape_ld_D_L (s : State) : ExecShape .ld_D_L s := .retires rfl (.loadR8 .d .l) rfl
theorem shape_ld_D_atHL (s : State) : ExecShape .ld_D_atHL s := .retires rfl (.loadR8 .d .atHL) rfl
theorem shape_ld_D_A (s : State) : ExecShape .ld_D_A s := .retires rfl (.loadR8 .d .a) rfl
theorem shape_ld_E_B (s : State) : ExecShape .ld_E_B s := .retires rfl (.loadR8 .e .b) rfl
theorem shape_ld_E_C (s : State) : ExecShape .ld_E_C s := .retires rfl (.loadR8 .e .c) rfl
theorem shape_ld_E_D (s : State) : ExecShape .ld_E_D s := .retires rfl (.loadR8 .e .d) rfl
theorem shape_ld_E_E (s : State) : ExecShape .ld_E_E s := .retires rfl (.loadR8 .e .e) rfl
theorem shape_ld_E_H (s : State) : ExecShape .ld_E_H s := .retires rfl (.loadR8 .e .h) rfl
theorem shape_ld_E_L (s : State) : ExecShape .ld_E_L s := .retires rfl (.loadR8 .e .l) rfl
theorem shape_ld_E_atHL (s : State) : ExecShape .ld_E_atHL s := .retires rfl (.loadR8 .e .atHL) rfl
theorem shape_ld_E_A (s : State) : ExecShape .ld_E_A s := .retires rfl (.loadR8 .e .a) rfl
theorem shape_ld_H_B (s : State) : ExecShape .ld_H_B s := .retires rfl (.loadR8 .h .b) rfl
theorem shape_ld_H_C (s : State) : ExecShape .ld_H_C s := .retires rfl (.loadR8 .h .c) rfl
theorem shape_ld_H_D (s : State) : ExecShape .ld_H_D s := .retires rfl (.loadR8 .h .d) rfl
theorem shape_ld_H_E (s : State) : ExecShape .ld_H_E s := .retires rfl (.loadR8 .h .e) rfl
theorem shape_ld_H_H (s : State) : ExecShape .ld_H_H s := .retires rfl (.loadR8 .h .h) rfl
theorem shape_ld_H_L (s : State) : ExecShape .ld_H_L s := .retires rfl (.loadR8 .h .l) rfl
theorem shape_ld_H_atHL (s : State) : ExecShape .ld_H_atHL s := .retires rfl (.loadR8 .h .atHL) rfl
theorem shape_ld_H_A (s : State) : ExecShape .ld_H_A s := .retires rfl (.loadR8 .h .a) rfl
theorem shape_ld_L_B (s : State) : ExecShape .ld_L_B s := .retires rfl (.loadR8 .l .b) rfl
theorem shape_ld_L_C (s : State) : ExecShape .ld_L_C s := .retires rfl (.loadR8 .l .c) rfl
theorem shape_ld_L_D (s : State) : ExecShape .ld_L_D s := .retires rfl (.loadR8 .l .d) rfl
theorem shape_ld_L_E (s : State) : ExecShape .ld_L_E s := .retires rfl (.loadR8 .l .e) rfl
theorem shape_ld_L_H (s : State) : ExecShape .ld_L_H s := .retires rfl (.loadR8 .l .h) rfl
theorem shape_ld_L_L (s : State) : ExecShape .ld_L_L s := .retires rfl (.loadR8 .l .l) rfl
theorem shape_ld_L_atHL (s : State) : ExecShape .ld_L_atHL s := .retires rfl (.loadR8 .l .atHL) rfl
theorem shape_ld_L_A (s : State) : ExecShape .ld_L_A s := .retires rfl (.loadR8 .l .a) rfl
theorem shape_ld_atHL_B (s : State) : ExecShape .ld_atHL_B s := .retires rfl (.loadR8 .atHL .b) rfl
theorem shape_ld_atHL_C (s : State) : ExecShape .ld_atHL_C s := .retires rfl (.loadR8 .atHL .c) rfl
theorem shape_ld_atHL_D (s : State) : ExecShape .ld_atHL_D s := .retires rfl (.loadR8 .atHL .d) rfl
theorem shape_ld_atHL_E (s : State) : ExecShape .ld_atHL_E s := .retires rfl (.loadR8 .atHL .e) rfl
theorem shape_ld_atHL_H (s : State) : ExecShape .ld_atHL_H s := .retires rfl (.loadR8 .atHL .h) rfl
theorem shape_ld_atHL_L (s : State) : ExecShape .ld_atHL_L s := .retires rfl (.loadR8 .atHL .l) rfl
theorem shape_halt (s : State) : ExecShape .halt s := .retires rfl .haltCpu rfl
theorem shape_ld_atHL_A (s : State) : ExecShape .ld_atHL_A s := .retires rfl (.loadR8 .atHL .a) rfl
theorem shape_ld_A_B (s : State) : ExecShape .ld_A_B s := .retires rfl (.loadR8 .a .b) rfl
theorem shape_ld_A_C (s : State) : ExecShape .ld_A_C s := .retires rfl (.loadR8 .a .c) rfl
theorem shape_ld_A_D (s : State) : ExecShape .ld_A_D s := .retires rfl (.loadR8 .a .d) rfl
theorem shape_ld_A_E (s : State) : ExecShape .ld_A_E s := .retires rfl (.loadR8 .a .e) rfl
theorem shape_ld_A_H (s : State) : ExecShape .ld_A_H s := .retires rfl (.loadR8 .a .h) rfl
theorem shape_ld_A_L (s : State) : ExecShape .ld_A_L s := .retires rfl (.loadR8 .a .l) rfl
theorem shape_ld_A_atHL (s : State) : ExecShape .ld_A_atHL s := .retires rfl (.loadR8 .a .atHL) rfl
theorem shape_ld_A_A (s : State) : ExecShape .ld_A_A s := .retires rfl (.loadR8 .a .a) rfl
theorem shape_add_A_B (s : State) : ExecShape .add_A_B s := .retires rfl (.aluA .add (src .b)) rfl
theorem shape_add_A_C (s : State) : ExecShape .add_A_C s := .retires rfl (.aluA .add (src .c)) rfl
theorem shape_add_A_D (s : State) : ExecShape .add_A_D s := .retires rfl (.aluA .add (src .d)) rfl
theorem shape_add_A_E (s : State) : ExecShape .add_A_E s := .retires rfl (.aluA .add (src .e)) rfl
theorem shape_add_A_H (s : State) : ExecShape .add_A_H s := .retires rfl (.aluA .add (src .h)) rfl
theorem shape_add_A_L (s : State) : ExecShape .add_A_L s := .retires rfl (.aluA .add (src .l)) rfl
theorem shape_add_A_atHL (s : State) : ExecShape .add_A_atHL s := .retires rfl (.aluA .add (src .atHL)) rfl
theorem shape_add_A_A (s : State) : ExecShape .add_A_A s := .retires rfl (.aluA .add (src .a)) rfl
theorem shape_adc_A_B (s : State) : ExecShape .adc_A_B s := .retires rfl (.aluA .adc (src .b)) rfl
theorem shape_adc_A_C (s : State) : ExecShape .adc_A_C s := .retires rfl (.aluA .adc (src .c)) rfl
theorem shape_adc_A_D (s : State) : ExecShape .adc_A_D s := .retires rfl (.aluA .adc (src .d)) rfl
theorem shape_adc_A_E (s : State) : ExecShape .adc_A_E s := .retires rfl (.aluA .adc (src .e)) rfl
theorem shape_adc_A_H (s : State) : ExecShape .adc_A_H s := .retires rfl (.aluA .adc (src .h)) rfl
theorem shape_adc_A_L (s : State) : ExecShape .adc_A_L s := .retires rfl (.aluA .adc (src .l)) rfl
theorem shape_adc_A_atHL (s : State) : ExecShape .adc_A_atHL s := .retires rfl (.aluA .adc (src .atHL)) rfl
theorem shape_adc_A_A (s : State) : ExecShape .adc_A_A s := .retires rfl (.aluA .adc (src .a)) rfl
theorem shape_sub_B (s : State) : ExecShape .sub_B s := .retires rfl (.aluA .sub (src .b)) rfl
theorem shape_sub_C (s : State) : ExecShape .sub_C s := .retires rfl (.aluA .sub (src .c)) rfl
theorem shape_sub_D (s : State) : ExecShape .sub_D s := .retires rfl (.aluA .sub (src .d)) rfl
theorem shape_sub_E (s : State) : ExecShape .sub_E s := .retires rfl (.aluA .sub (src .e)) rfl
theorem shape_sub_H (s : State) : ExecShape .sub_H s := .retires rfl (.aluA .sub (src .h)) rfl
theorem shape_sub_L (s : State) : ExecShape .sub_L s := .retires rfl (.aluA .sub (src .l)) rfl
theorem shape_sub_atHL (s : State) : ExecShape .sub_atHL s := .retires rfl (.aluA .sub (src .atHL)) rfl
theorem shape_sub_A (s : State) : ExecShape .sub_A s := .retires rfl (.aluA .sub (src .a)) rfl
theorem shape_sbc_A_B (s : State) : ExecShape .sbc_A_B s := .retires rfl (.aluA .sbc (src .b)) rfl
theorem shape_sbc_A_C (s : State) : ExecShape .sbc_A_C s := .retires rfl (.aluA .sbc (src .c)) rfl
theorem shape_sbc_A_D (s : State) : ExecShape .sbc_A_D s := .retires rfl (.aluA .sbc (src .d)) rfl
theorem shape_sbc_A_E (s : State) : ExecShape .sbc_A_E s := .retires rfl (.aluA .sbc (src .e)) rfl
theorem shape_sbc_A_H (s : State) : ExecShape .sbc_A_H s := .retires rfl (.aluA .sbc (src .h)) rfl
theorem shape_sbc_A_L (s : State) : ExecShape .sbc_A_L s := .retires rfl (.aluA .sbc (src .l)) rfl
theorem shape_sbc_A_atHL (s : State) : ExecShape .sbc_A_atHL s := .retires rfl (.aluA .sbc (src .atHL)) rfl
theorem shape_sbc_A_A (s : State) : ExecShape .sbc_A_A s := .retires rfl (.aluA .sbc (src .a)) rfl
theorem shape_and_B (s : State) : ExecShape .and_B s := .retires rfl (.aluA .and (src .b)) rfl
theorem shape_and_C (s : State) : ExecShape .and_C s := .retires rfl (.aluA .and (src .c)) rfl
theorem shape_and_D (s : State) : ExecShape .and_D s := .retires rfl (.aluA .and (src .d)) rfl
theorem shape_and_E (s : State) : ExecShape .and_E s := .retires rfl (.aluA .and (src .e)) rfl
theorem shape_and_H (s : State) : ExecShape .and_H s := .retires rfl (.aluA .and (src .h)) rfl
theorem shape_and_L (s : State) : ExecShape .and_L s := .retires rfl (.aluA .and (src .l)) rfl
theorem shape_and_atHL (s : State) : ExecShape .and_atHL s := .retires rfl (.aluA .and (src .atHL)) rfl
theorem shape_and_A (s : State) : ExecShape .and_A s := .retires rfl (.aluA .and (src .a)) rfl
theorem shape_xor_B (s : State) : ExecShape .xor_B s := .retires rfl (.aluA .xor (src .b)) rfl
theorem shape_xor_C (s : State) : ExecShape .xor_C s := .retires rfl (.aluA .xor (src .c)) rfl
theorem shape_xor_D (s : State) : ExecShape .xor_D s := .retires rfl (.aluA .xor (src .d)) rfl
theorem shape_xor_E (s : State) : ExecShape .xor_E s := .retires rfl (.aluA .xor (src .e)) rfl
theorem shape_xor_H (s : State) : ExecShape .xor_H s := .retires rfl (.aluA .xor (src .h)) rfl
theorem shape_xor_L (s : State) : ExecShape .xor_L s := .retires rfl (.aluA .xor (src .l)) rfl
theorem shape_xor_atHL (s : State) : ExecShape .xor_atHL s := .retires rfl (.aluA .xor (src .atHL)) rfl
theorem shape_xor_A (s : State) : ExecShape .xor_A s := .retires rfl (.aluA .xor (src .a)) rfl
theorem shape_or_B (s : State) : ExecShape .or_B s := .retires rfl (.aluA .or (src .b)) rfl
theorem shape_or_C (s : State) : ExecShape .or_C s := .retires rfl (.aluA .or (src .c)) rfl
theorem shape_or_D (s : State) : ExecShape .or_D s := .retires rfl (.aluA .or (src .d)) rfl
theorem shape_or_E (s : State) : ExecShape .or_E s := .retires rfl (.aluA .or (src .e)) rfl
theorem shape_or_H (s : State) : ExecShape .or_H s := .retires rfl (.aluA .or (src .h)) rfl
theorem shape_or_L (s : State) : ExecShape .or_L s := .retires rfl (.aluA .or (src .l)) rfl
theorem shape_or_atHL (s : State) : ExecShape .or_atHL s := .retires rfl (.aluA .or (src .atHL)) rfl
theorem shape_or_A (s : State) : ExecShape .or_A s := .retires rfl (.aluA .or (src .a)) rfl
theorem shape_cp_B (s : State) : ExecShape .cp_B s := .retires rfl (.aluA .cp (src .b)) rfl
theorem shape_cp_C (s : State) : ExecShape .cp_C s := .retires rfl (.aluA .cp (src .c)) rfl
theorem shape_cp_D (s : State) : ExecShape .cp_D s := .retires rfl (.aluA .cp (src .d)) rfl
theorem shape_cp_E (s : State) : ExecShape .cp_E s := .retires rfl (.aluA .cp (src .e)) rfl
theorem shape_cp_H (s : State) : ExecShape .cp_H s := .retires rfl (.aluA .cp (src .h)) rfl
theorem shape_cp_L (s : State) : ExecShape .cp_L s := .retires rfl (.aluA .cp (src .l)) rfl
theorem shape_cp_atHL (s : State) : ExecShape .cp_atHL s := .retires rfl (.aluA .cp (src .atHL)) rfl
theorem shape_cp_A (s : State) : ExecShape .cp_A s := .retires rfl (.aluA .cp (src .a)) rfl
theorem shape_ret_NZ (s : State) : ExecShape .ret_NZ s := .branches rfl .returnTo rfl
theorem shape_pop_BC (s : State) : ExecShape .pop_BC s := .retires rfl .popBC rfl
theorem shape_jp_NZ_a16 (a16 : Word) (s : State) : ExecShape (.jp_NZ_a16 a16) s := .branches rfl (.jumpTo a16) rfl
theorem shape_jp_a16 (a16 : Word) (s : State) : ExecShape (.jp_a16 a16) s := .retires rfl (.jumpTo a16) rfl
theorem shape_call_NZ_a16 (a16 : Word) (s : State) : ExecShape (.call_NZ_a16 a16) s := .branches rfl (.callTo a16) rfl
theorem shape_push_BC (s : State) : ExecShape .push_BC s := .retires rfl (.pushR16 .bc) rfl
theorem shape_add_A_d8 (d8 : Byte) (s : State) : ExecShape (.add_A_d8 d8) s := .retires rfl (.aluA .add (immediate d8)) rfl
theorem shape_rst_00H (s : State) : ExecShape .rst_00H s := .retires rfl (.callTo 0x00) rfl
theorem shape_ret_Z (s : State) : ExecShape .ret_Z s := .branches rfl .returnTo rfl
theorem shape_ret (s : State) : ExecShape .ret s := .retires rfl .returnTo rfl
theorem shape_jp_Z_a16 (a16 : Word) (s : State) : ExecShape (.jp_Z_a16 a16) s := .branches rfl (.jumpTo a16) rfl
theorem shape_call_Z_a16 (a16 : Word) (s : State) : ExecShape (.call_Z_a16 a16) s := .branches rfl (.callTo a16) rfl
theorem shape_call_a16 (a16 : Word) (s : State) : ExecShape (.call_a16 a16) s := .retires rfl (.callTo a16) rfl
theorem shape_adc_A_d8 (d8 : Byte) (s : State) : ExecShape (.adc_A_d8 d8) s := .retires rfl (.aluA .adc (immediate d8)) rfl
theorem shape_rst_08H (s : State) : ExecShape .rst_08H s := .retires rfl (.callTo 0x08) rfl
theorem shape_ret_NC (s : State) : ExecShape .ret_NC s := .branches rfl .returnTo rfl
theorem shape_pop_DE (s : State) : ExecShape .pop_DE s := .retires rfl .popDE rfl
theorem shape_jp_NC_a16 (a16 : Word) (s : State) : ExecShape (.jp_NC_a16 a16) s := .branches rfl (.jumpTo a16) rfl
theorem shape_illegal_D3 (s : State) : ExecShape .illegal_D3 s := .faults rfl rfl
theorem shape_call_NC_a16 (a16 : Word) (s : State) : ExecShape (.call_NC_a16 a16) s := .branches rfl (.callTo a16) rfl
theorem shape_push_DE (s : State) : ExecShape .push_DE s := .retires rfl (.pushR16 .de) rfl
theorem shape_sub_d8 (d8 : Byte) (s : State) : ExecShape (.sub_d8 d8) s := .retires rfl (.aluA .sub (immediate d8)) rfl
theorem shape_rst_10H (s : State) : ExecShape .rst_10H s := .retires rfl (.callTo 0x10) rfl
theorem shape_ret_C (s : State) : ExecShape .ret_C s := .branches rfl .returnTo rfl
theorem shape_reti (s : State) : ExecShape .reti s := .retires rfl .returnFromInterrupt rfl
theorem shape_jp_C_a16 (a16 : Word) (s : State) : ExecShape (.jp_C_a16 a16) s := .branches rfl (.jumpTo a16) rfl
theorem shape_illegal_DB (s : State) : ExecShape .illegal_DB s := .faults rfl rfl
theorem shape_call_C_a16 (a16 : Word) (s : State) : ExecShape (.call_C_a16 a16) s := .branches rfl (.callTo a16) rfl
theorem shape_illegal_DD (s : State) : ExecShape .illegal_DD s := .faults rfl rfl
theorem shape_sbc_A_d8 (d8 : Byte) (s : State) : ExecShape (.sbc_A_d8 d8) s := .retires rfl (.aluA .sbc (immediate d8)) rfl
theorem shape_rst_18H (s : State) : ExecShape .rst_18H s := .retires rfl (.callTo 0x18) rfl
theorem shape_ldh_atA8_A (a8 : Byte) (s : State) : ExecShape (.ldh_atA8_A a8) s := .retires rfl (.storeA (.page a8)) rfl
theorem shape_pop_HL (s : State) : ExecShape .pop_HL s := .retires rfl .popHL rfl
theorem shape_ld_atC_A (s : State) : ExecShape .ld_atC_A s := .retires rfl (.storeA .pageC) rfl
theorem shape_illegal_E3 (s : State) : ExecShape .illegal_E3 s := .faults rfl rfl
theorem shape_illegal_E4 (s : State) : ExecShape .illegal_E4 s := .faults rfl rfl
theorem shape_push_HL (s : State) : ExecShape .push_HL s := .retires rfl (.pushR16 .hl) rfl
theorem shape_and_d8 (d8 : Byte) (s : State) : ExecShape (.and_d8 d8) s := .retires rfl (.aluA .and (immediate d8)) rfl
theorem shape_rst_20H (s : State) : ExecShape .rst_20H s := .retires rfl (.callTo 0x20) rfl
theorem shape_add_SP_e8 (e8 : Byte) (s : State) : ExecShape (.add_SP_e8 e8) s := .retires rfl (.spPlusSP e8) rfl
theorem shape_jp_HL (s : State) : ExecShape .jp_HL s := .retires rfl .jumpHL rfl
theorem shape_ld_atA16_A (a16 : Word) (s : State) : ExecShape (.ld_atA16_A a16) s := .retires rfl (.storeA (.abs a16)) rfl
theorem shape_illegal_EB (s : State) : ExecShape .illegal_EB s := .faults rfl rfl
theorem shape_illegal_EC (s : State) : ExecShape .illegal_EC s := .faults rfl rfl
theorem shape_illegal_ED (s : State) : ExecShape .illegal_ED s := .faults rfl rfl
theorem shape_xor_d8 (d8 : Byte) (s : State) : ExecShape (.xor_d8 d8) s := .retires rfl (.aluA .xor (immediate d8)) rfl
theorem shape_rst_28H (s : State) : ExecShape .rst_28H s := .retires rfl (.callTo 0x28) rfl
theorem shape_ldh_A_atA8 (a8 : Byte) (s : State) : ExecShape (.ldh_A_atA8 a8) s := .retires rfl (.loadA (.page a8)) rfl
theorem shape_pop_AF (s : State) : ExecShape .pop_AF s := .retires rfl .popAF rfl
theorem shape_ld_A_atC (s : State) : ExecShape .ld_A_atC s := .retires rfl (.loadA .pageC) rfl
theorem shape_di (s : State) : ExecShape .di s := .retires rfl .disableInterrupts rfl
theorem shape_illegal_F4 (s : State) : ExecShape .illegal_F4 s := .faults rfl rfl
theorem shape_push_AF (s : State) : ExecShape .push_AF s := .retires rfl (.pushR16 .af) rfl
theorem shape_or_d8 (d8 : Byte) (s : State) : ExecShape (.or_d8 d8) s := .retires rfl (.aluA .or (immediate d8)) rfl
theorem shape_rst_30H (s : State) : ExecShape .rst_30H s := .retires rfl (.callTo 0x30) rfl
theorem shape_ld_HL_SPe8 (e8 : Byte) (s : State) : ExecShape (.ld_HL_SPe8 e8) s := .retires rfl (.spPlusHL e8) rfl
theorem shape_ld_SP_HL (s : State) : ExecShape .ld_SP_HL s := .retires rfl .loadSPHL rfl
theorem shape_ld_A_atA16 (a16 : Word) (s : State) : ExecShape (.ld_A_atA16 a16) s := .retires rfl (.loadA (.abs a16)) rfl
theorem shape_ei (s : State) : ExecShape .ei s := .retires rfl .enableInterrupts rfl
theorem shape_illegal_FC (s : State) : ExecShape .illegal_FC s := .faults rfl rfl
theorem shape_illegal_FD (s : State) : ExecShape .illegal_FD s := .faults rfl rfl
theorem shape_cp_d8 (d8 : Byte) (s : State) : ExecShape (.cp_d8 d8) s := .retires rfl (.aluA .cp (immediate d8)) rfl
theorem shape_rst_38H (s : State) : ExecShape .rst_38H s := .retires rfl (.callTo 0x38) rfl
theorem shape_rlc_B (s : State) : ExecShape .rlc_B s := .retires rfl (.rotR8 .rlc .b) rfl
theorem shape_rlc_C (s : State) : ExecShape .rlc_C s := .retires rfl (.rotR8 .rlc .c) rfl
theorem shape_rlc_D (s : State) : ExecShape .rlc_D s := .retires rfl (.rotR8 .rlc .d) rfl
theorem shape_rlc_E (s : State) : ExecShape .rlc_E s := .retires rfl (.rotR8 .rlc .e) rfl
theorem shape_rlc_H (s : State) : ExecShape .rlc_H s := .retires rfl (.rotR8 .rlc .h) rfl
theorem shape_rlc_L (s : State) : ExecShape .rlc_L s := .retires rfl (.rotR8 .rlc .l) rfl
theorem shape_rlc_atHL (s : State) : ExecShape .rlc_atHL s := .retires rfl (.rotR8 .rlc .atHL) rfl
theorem shape_rlc_A (s : State) : ExecShape .rlc_A s := .retires rfl (.rotR8 .rlc .a) rfl
theorem shape_rrc_B (s : State) : ExecShape .rrc_B s := .retires rfl (.rotR8 .rrc .b) rfl
theorem shape_rrc_C (s : State) : ExecShape .rrc_C s := .retires rfl (.rotR8 .rrc .c) rfl
theorem shape_rrc_D (s : State) : ExecShape .rrc_D s := .retires rfl (.rotR8 .rrc .d) rfl
theorem shape_rrc_E (s : State) : ExecShape .rrc_E s := .retires rfl (.rotR8 .rrc .e) rfl
theorem shape_rrc_H (s : State) : ExecShape .rrc_H s := .retires rfl (.rotR8 .rrc .h) rfl
theorem shape_rrc_L (s : State) : ExecShape .rrc_L s := .retires rfl (.rotR8 .rrc .l) rfl
theorem shape_rrc_atHL (s : State) : ExecShape .rrc_atHL s := .retires rfl (.rotR8 .rrc .atHL) rfl
theorem shape_rrc_A (s : State) : ExecShape .rrc_A s := .retires rfl (.rotR8 .rrc .a) rfl
theorem shape_rl_B (s : State) : ExecShape .rl_B s := .retires rfl (.rotR8 .rl .b) rfl
theorem shape_rl_C (s : State) : ExecShape .rl_C s := .retires rfl (.rotR8 .rl .c) rfl
theorem shape_rl_D (s : State) : ExecShape .rl_D s := .retires rfl (.rotR8 .rl .d) rfl
theorem shape_rl_E (s : State) : ExecShape .rl_E s := .retires rfl (.rotR8 .rl .e) rfl
theorem shape_rl_H (s : State) : ExecShape .rl_H s := .retires rfl (.rotR8 .rl .h) rfl
theorem shape_rl_L (s : State) : ExecShape .rl_L s := .retires rfl (.rotR8 .rl .l) rfl
theorem shape_rl_atHL (s : State) : ExecShape .rl_atHL s := .retires rfl (.rotR8 .rl .atHL) rfl
theorem shape_rl_A (s : State) : ExecShape .rl_A s := .retires rfl (.rotR8 .rl .a) rfl
theorem shape_rr_B (s : State) : ExecShape .rr_B s := .retires rfl (.rotR8 .rr .b) rfl
theorem shape_rr_C (s : State) : ExecShape .rr_C s := .retires rfl (.rotR8 .rr .c) rfl
theorem shape_rr_D (s : State) : ExecShape .rr_D s := .retires rfl (.rotR8 .rr .d) rfl
theorem shape_rr_E (s : State) : ExecShape .rr_E s := .retires rfl (.rotR8 .rr .e) rfl
theorem shape_rr_H (s : State) : ExecShape .rr_H s := .retires rfl (.rotR8 .rr .h) rfl
theorem shape_rr_L (s : State) : ExecShape .rr_L s := .retires rfl (.rotR8 .rr .l) rfl
theorem shape_rr_atHL (s : State) : ExecShape .rr_atHL s := .retires rfl (.rotR8 .rr .atHL) rfl
theorem shape_rr_A (s : State) : ExecShape .rr_A s := .retires rfl (.rotR8 .rr .a) rfl
theorem shape_sla_B (s : State) : ExecShape .sla_B s := .retires rfl (.rotR8 .sla .b) rfl
theorem shape_sla_C (s : State) : ExecShape .sla_C s := .retires rfl (.rotR8 .sla .c) rfl
theorem shape_sla_D (s : State) : ExecShape .sla_D s := .retires rfl (.rotR8 .sla .d) rfl
theorem shape_sla_E (s : State) : ExecShape .sla_E s := .retires rfl (.rotR8 .sla .e) rfl
theorem shape_sla_H (s : State) : ExecShape .sla_H s := .retires rfl (.rotR8 .sla .h) rfl
theorem shape_sla_L (s : State) : ExecShape .sla_L s := .retires rfl (.rotR8 .sla .l) rfl
theorem shape_sla_atHL (s : State) : ExecShape .sla_atHL s := .retires rfl (.rotR8 .sla .atHL) rfl
theorem shape_sla_A (s : State) : ExecShape .sla_A s := .retires rfl (.rotR8 .sla .a) rfl
theorem shape_sra_B (s : State) : ExecShape .sra_B s := .retires rfl (.rotR8 .sra .b) rfl
theorem shape_sra_C (s : State) : ExecShape .sra_C s := .retires rfl (.rotR8 .sra .c) rfl
theorem shape_sra_D (s : State) : ExecShape .sra_D s := .retires rfl (.rotR8 .sra .d) rfl
theorem shape_sra_E (s : State) : ExecShape .sra_E s := .retires rfl (.rotR8 .sra .e) rfl
theorem shape_sra_H (s : State) : ExecShape .sra_H s := .retires rfl (.rotR8 .sra .h) rfl
theorem shape_sra_L (s : State) : ExecShape .sra_L s := .retires rfl (.rotR8 .sra .l) rfl
theorem shape_sra_atHL (s : State) : ExecShape .sra_atHL s := .retires rfl (.rotR8 .sra .atHL) rfl
theorem shape_sra_A (s : State) : ExecShape .sra_A s := .retires rfl (.rotR8 .sra .a) rfl
theorem shape_swap_B (s : State) : ExecShape .swap_B s := .retires rfl (.rotR8 .swap .b) rfl
theorem shape_swap_C (s : State) : ExecShape .swap_C s := .retires rfl (.rotR8 .swap .c) rfl
theorem shape_swap_D (s : State) : ExecShape .swap_D s := .retires rfl (.rotR8 .swap .d) rfl
theorem shape_swap_E (s : State) : ExecShape .swap_E s := .retires rfl (.rotR8 .swap .e) rfl
theorem shape_swap_H (s : State) : ExecShape .swap_H s := .retires rfl (.rotR8 .swap .h) rfl
theorem shape_swap_L (s : State) : ExecShape .swap_L s := .retires rfl (.rotR8 .swap .l) rfl
theorem shape_swap_atHL (s : State) : ExecShape .swap_atHL s := .retires rfl (.rotR8 .swap .atHL) rfl
theorem shape_swap_A (s : State) : ExecShape .swap_A s := .retires rfl (.rotR8 .swap .a) rfl
theorem shape_srl_B (s : State) : ExecShape .srl_B s := .retires rfl (.rotR8 .srl .b) rfl
theorem shape_srl_C (s : State) : ExecShape .srl_C s := .retires rfl (.rotR8 .srl .c) rfl
theorem shape_srl_D (s : State) : ExecShape .srl_D s := .retires rfl (.rotR8 .srl .d) rfl
theorem shape_srl_E (s : State) : ExecShape .srl_E s := .retires rfl (.rotR8 .srl .e) rfl
theorem shape_srl_H (s : State) : ExecShape .srl_H s := .retires rfl (.rotR8 .srl .h) rfl
theorem shape_srl_L (s : State) : ExecShape .srl_L s := .retires rfl (.rotR8 .srl .l) rfl
theorem shape_srl_atHL (s : State) : ExecShape .srl_atHL s := .retires rfl (.rotR8 .srl .atHL) rfl
theorem shape_srl_A (s : State) : ExecShape .srl_A s := .retires rfl (.rotR8 .srl .a) rfl
theorem shape_bit_0_B (s : State) : ExecShape .bit_0_B s := .retires rfl (.bitR8 0 .b) rfl
theorem shape_bit_0_C (s : State) : ExecShape .bit_0_C s := .retires rfl (.bitR8 0 .c) rfl
theorem shape_bit_0_D (s : State) : ExecShape .bit_0_D s := .retires rfl (.bitR8 0 .d) rfl
theorem shape_bit_0_E (s : State) : ExecShape .bit_0_E s := .retires rfl (.bitR8 0 .e) rfl
theorem shape_bit_0_H (s : State) : ExecShape .bit_0_H s := .retires rfl (.bitR8 0 .h) rfl
theorem shape_bit_0_L (s : State) : ExecShape .bit_0_L s := .retires rfl (.bitR8 0 .l) rfl
theorem shape_bit_0_atHL (s : State) : ExecShape .bit_0_atHL s := .retires rfl (.bitR8 0 .atHL) rfl
theorem shape_bit_0_A (s : State) : ExecShape .bit_0_A s := .retires rfl (.bitR8 0 .a) rfl
theorem shape_bit_1_B (s : State) : ExecShape .bit_1_B s := .retires rfl (.bitR8 1 .b) rfl
theorem shape_bit_1_C (s : State) : ExecShape .bit_1_C s := .retires rfl (.bitR8 1 .c) rfl
theorem shape_bit_1_D (s : State) : ExecShape .bit_1_D s := .retires rfl (.bitR8 1 .d) rfl
theorem shape_bit_1_E (s : State) : ExecShape .bit_1_E s := .retires rfl (.bitR8 1 .e) rfl
theorem shape_bit_1_H (s : State) : ExecShape .bit_1_H s := .retires rfl (.bitR8 1 .h) rfl
theorem shape_bit_1_L (s : State) : ExecShape .bit_1_L s := .retires rfl (.bitR8 1 .l) rfl
theorem shape_bit_1_atHL (s : State) : ExecShape .bit_1_atHL s := .retires rfl (.bitR8 1 .atHL) rfl
theorem shape_bit_1_A (s : State) : ExecShape .bit_1_A s := .retires rfl (.bitR8 1 .a) rfl
theorem shape_bit_2_B (s : State) : ExecShape .bit_2_B s := .retires rfl (.bitR8 2 .b) rfl
theorem shape_bit_2_C (s : State) : ExecShape .bit_2_C s := .retires rfl (.bitR8 2 .c) rfl
theorem shape_bit_2_D (s : State) : ExecShape .bit_2_D s := .retires rfl (.bitR8 2 .d) rfl
theorem shape_bit_2_E (s : State) : ExecShape .bit_2_E s := .retires rfl (.bitR8 2 .e) rfl
theorem shape_bit_2_H (s : State) : ExecShape .bit_2_H s := .retires rfl (.bitR8 2 .h) rfl
theorem shape_bit_2_L (s : State) : ExecShape .bit_2_L s := .retires rfl (.bitR8 2 .l) rfl
theorem shape_bit_2_atHL (s : State) : ExecShape .bit_2_atHL s := .retires rfl (.bitR8 2 .atHL) rfl
theorem shape_bit_2_A (s : State) : ExecShape .bit_2_A s := .retires rfl (.bitR8 2 .a) rfl
theorem shape_bit_3_B (s : State) : ExecShape .bit_3_B s := .retires rfl (.bitR8 3 .b) rfl
theorem shape_bit_3_C (s : State) : ExecShape .bit_3_C s := .retires rfl (.bitR8 3 .c) rfl
theorem shape_bit_3_D (s : State) : ExecShape .bit_3_D s := .retires rfl (.bitR8 3 .d) rfl
theorem shape_bit_3_E (s : State) : ExecShape .bit_3_E s := .retires rfl (.bitR8 3 .e) rfl
theorem shape_bit_3_H (s : State) : ExecShape .bit_3_H s := .retires rfl (.bitR8 3 .h) rfl
theorem shape_bit_3_L (s : State) : ExecShape .bit_3_L s := .retires rfl (.bitR8 3 .l) rfl
theorem shape_bit_3_atHL (s : State) : ExecShape .bit_3_atHL s := .retires rfl (.bitR8 3 .atHL) rfl
theorem shape_bit_3_A (s : State) : ExecShape .bit_3_A s := .retires rfl (.bitR8 3 .a) rfl
theorem shape_bit_4_B (s : State) : ExecShape .bit_4_B s := .retires rfl (.bitR8 4 .b) rfl
theorem shape_bit_4_C (s : State) : ExecShape .bit_4_C s := .retires rfl (.bitR8 4 .c) rfl
theorem shape_bit_4_D (s : State) : ExecShape .bit_4_D s := .retires rfl (.bitR8 4 .d) rfl
theorem shape_bit_4_E (s : State) : ExecShape .bit_4_E s := .retires rfl (.bitR8 4 .e) rfl
theorem shape_bit_4_H (s : State) : ExecShape .bit_4_H s := .retires rfl (.bitR8 4 .h) rfl
theorem shape_bit_4_L (s : State) : ExecShape .bit_4_L s := .retires rfl (.bitR8 4 .l) rfl
theorem shape_bit_4_atHL (s : State) : ExecShape .bit_4_atHL s := .retires rfl (.bitR8 4 .atHL) rfl
theorem shape_bit_4_A (s : State) : ExecShape .bit_4_A s := .retires rfl (.bitR8 4 .a) rfl
theorem shape_bit_5_B (s : State) : ExecShape .bit_5_B s := .retires rfl (.bitR8 5 .b) rfl
theorem shape_bit_5_C (s : State) : ExecShape .bit_5_C s := .retires rfl (.bitR8 5 .c) rfl
theorem shape_bit_5_D (s : State) : ExecShape .bit_5_D s := .retires rfl (.bitR8 5 .d) rfl
theorem shape_bit_5_E (s : State) : ExecShape .bit_5_E s := .retires rfl (.bitR8 5 .e) rfl
theorem shape_bit_5_H (s : State) : ExecShape .bit_5_H s := .retires rfl (.bitR8 5 .h) rfl
theorem shape_bit_5_L (s : State) : ExecShape .bit_5_L s := .retires rfl (.bitR8 5 .l) rfl
theorem shape_bit_5_atHL (s : State) : ExecShape .bit_5_atHL s := .retires rfl (.bitR8 5 .atHL) rfl
theorem shape_bit_5_A (s : State) : ExecShape .bit_5_A s := .retires rfl (.bitR8 5 .a) rfl
theorem shape_bit_6_B (s : State) : ExecShape .bit_6_B s := .retires rfl (.bitR8 6 .b) rfl
theorem shape_bit_6_C (s : State) : ExecShape .bit_6_C s := .retires rfl (.bitR8 6 .c) rfl
theorem shape_bit_6_D (s : State) : ExecShape .bit_6_D s := .retires rfl (.bitR8 6 .d) rfl
theorem shape_bit_6_E (s : State) : ExecShape .bit_6_E s := .retires rfl (.bitR8 6 .e) rfl
theorem shape_bit_6_H (s : State) : ExecShape .bit_6_H s := .retires rfl (.bitR8 6 .h) rfl
theorem shape_bit_6_L (s : State) : ExecShape .bit_6_L s := .retires rfl (.bitR8 6 .l) rfl
theorem shape_bit_6_atHL (s : State) : ExecShape .bit_6_atHL s := .retires rfl (.bitR8 6 .atHL) rfl
theorem shape_bit_6_A (s : State) : ExecShape .bit_6_A s := .retires rfl (.bitR8 6 .a) rfl
theorem shape_bit_7_B (s : State) : ExecShape .bit_7_B s := .retires rfl (.bitR8 7 .b) rfl
theorem shape_bit_7_C (s : State) : ExecShape .bit_7_C s := .retires rfl (.bitR8 7 .c) rfl
theorem shape_bit_7_D (s : State) : ExecShape .bit_7_D s := .retires rfl (.bitR8 7 .d) rfl
theorem shape_bit_7_E (s : State) : ExecShape .bit_7_E s := .retires rfl (.bitR8 7 .e) rfl
theorem shape_bit_7_H (s : State) : ExecShape .bit_7_H s := .retires rfl (.bitR8 7 .h) rfl
theorem shape_bit_7_L (s : State) : ExecShape .bit_7_L s := .retires rfl (.bitR8 7 .l) rfl
theorem shape_bit_7_atHL (s : State) : ExecShape .bit_7_atHL s := .retires rfl (.bitR8 7 .atHL) rfl
theorem shape_bit_7_A (s : State) : ExecShape .bit_7_A s := .retires rfl (.bitR8 7 .a) rfl
theorem shape_res_0_B (s : State) : ExecShape .res_0_B s := .retires rfl (.resR8 0 .b) rfl
theorem shape_res_0_C (s : State) : ExecShape .res_0_C s := .retires rfl (.resR8 0 .c) rfl
theorem shape_res_0_D (s : State) : ExecShape .res_0_D s := .retires rfl (.resR8 0 .d) rfl
theorem shape_res_0_E (s : State) : ExecShape .res_0_E s := .retires rfl (.resR8 0 .e) rfl
theorem shape_res_0_H (s : State) : ExecShape .res_0_H s := .retires rfl (.resR8 0 .h) rfl
theorem shape_res_0_L (s : State) : ExecShape .res_0_L s := .retires rfl (.resR8 0 .l) rfl
theorem shape_res_0_atHL (s : State) : ExecShape .res_0_atHL s := .retires rfl (.resR8 0 .atHL) rfl
theorem shape_res_0_A (s : State) : ExecShape .res_0_A s := .retires rfl (.resR8 0 .a) rfl
theorem shape_res_1_B (s : State) : ExecShape .res_1_B s := .retires rfl (.resR8 1 .b) rfl
theorem shape_res_1_C (s : State) : ExecShape .res_1_C s := .retires rfl (.resR8 1 .c) rfl
theorem shape_res_1_D (s : State) : ExecShape .res_1_D s := .retires rfl (.resR8 1 .d) rfl
theorem shape_res_1_E (s : State) : ExecShape .res_1_E s := .retires rfl (.resR8 1 .e) rfl
theorem shape_res_1_H (s : State) : ExecShape .res_1_H s := .retires rfl (.resR8 1 .h) rfl
theorem shape_res_1_L (s : State) : ExecShape .res_1_L s := .retires rfl (.resR8 1 .l) rfl
theorem shape_res_1_atHL (s : State) : ExecShape .res_1_atHL s := .retires rfl (.resR8 1 .atHL) rfl
theorem shape_res_1_A (s : State) : ExecShape .res_1_A s := .retires rfl (.resR8 1 .a) rfl
theorem shape_res_2_B (s : State) : ExecShape .res_2_B s := .retires rfl (.resR8 2 .b) rfl
theorem shape_res_2_C (s : State) : ExecShape .res_2_C s := .retires rfl (.resR8 2 .c) rfl
theorem shape_res_2_D (s : State) : ExecShape .res_2_D s := .retires rfl (.resR8 2 .d) rfl
theorem shape_res_2_E (s : State) : ExecShape .res_2_E s := .retires rfl (.resR8 2 .e) rfl
theorem shape_res_2_H (s : State) : ExecShape .res_2_H s := .retires rfl (.resR8 2 .h) rfl
theorem shape_res_2_L (s : State) : ExecShape .res_2_L s := .retires rfl (.resR8 2 .l) rfl
theorem shape_res_2_atHL (s : State) : ExecShape .res_2_atHL s := .retires rfl (.resR8 2 .atHL) rfl
theorem shape_res_2_A (s : State) : ExecShape .res_2_A s := .retires rfl (.resR8 2 .a) rfl
theorem shape_res_3_B (s : State) : ExecShape .res_3_B s := .retires rfl (.resR8 3 .b) rfl
theorem shape_res_3_C (s : State) : ExecShape .res_3_C s := .retires rfl (.resR8 3 .c) rfl
theorem shape_res_3_D (s : State) : ExecShape .res_3_D s := .retires rfl (.resR8 3 .d) rfl
theorem shape_res_3_E (s : State) : ExecShape .res_3_E s := .retires rfl (.resR8 3 .e) rfl
theorem shape_res_3_H (s : State) : ExecShape .res_3_H s := .retires rfl (.resR8 3 .h) rfl
theorem shape_res_3_L (s : State) : ExecShape .res_3_L s := .retires rfl (.resR8 3 .l) rfl
theorem shape_res_3_atHL (s : State) : ExecShape .res_3_atHL s := .retires rfl (.resR8 3 .atHL) rfl
theorem shape_res_3_A (s : State) : ExecShape .res_3_A s := .retires rfl (.resR8 3 .a) rfl
theorem shape_res_4_B (s : State) : ExecShape .res_4_B s := .retires rfl (.resR8 4 .b) rfl
theorem shape_res_4_C (s : State) : ExecShape .res_4_C s := .retires rfl (.resR8 4 .c) rfl
theorem shape_res_4_D (s : State) : ExecShape .res_4_D s := .retires rfl (.resR8 4 .d) rfl
theorem shape_res_4_E (s : State) : ExecShape .res_4_E s := .retires rfl (.resR8 4 .e) rfl
theorem shape_res_4_H (s : State) : ExecShape .res_4_H s := .retires rfl (.resR8 4 .h) rfl
theorem shape_res_4_L (s : State) : ExecShape .res_4_L s := .retires rfl (.resR8 4 .l) rfl
theorem shape_res_4_atHL (s : State) : ExecShape .res_4_atHL s := .retires rfl (.resR8 4 .atHL) rfl
theorem shape_res_4_A (s : State) : ExecShape .res_4_A s := .retires rfl (.resR8 4 .a) rfl
theorem shape_res_5_B (s : State) : ExecShape .res_5_B s := .retires rfl (.resR8 5 .b) rfl
theorem shape_res_5_C (s : State) : ExecShape .res_5_C s := .retires rfl (.resR8 5 .c) rfl
theorem shape_res_5_D (s : State) : ExecShape .res_5_D s := .retires rfl (.resR8 5 .d) rfl
theorem shape_res_5_E (s : State) : ExecShape .res_5_E s := .retires rfl (.resR8 5 .e) rfl
theorem shape_res_5_H (s : State) : ExecShape .res_5_H s := .retires rfl (.resR8 5 .h) rfl
theorem shape_res_5_L (s : State) : ExecShape .res_5_L s := .retires rfl (.resR8 5 .l) rfl
theorem shape_res_5_atHL (s : State) : ExecShape .res_5_atHL s := .retires rfl (.resR8 5 .atHL) rfl
theorem shape_res_5_A (s : State) : ExecShape .res_5_A s := .retires rfl (.resR8 5 .a) rfl
theorem shape_res_6_B (s : State) : ExecShape .res_6_B s := .retires rfl (.resR8 6 .b) rfl
theorem shape_res_6_C (s : State) : ExecShape .res_6_C s := .retires rfl (.resR8 6 .c) rfl
theorem shape_res_6_D (s : State) : ExecShape .res_6_D s := .retires rfl (.resR8 6 .d) rfl
theorem shape_res_6_E (s : State) : ExecShape .res_6_E s := .retires rfl (.resR8 6 .e) rfl
theorem shape_res_6_H (s : State) : ExecShape .res_6_H s := .retires rfl (.resR8 6 .h) rfl
theorem shape_res_6_L (s : State) : ExecShape .res_6_L s := .retires rfl (.resR8 6 .l) rfl
theorem shape_res_6_atHL (s : State) : ExecShape .res_6_atHL s := .retires rfl (.resR8 6 .atHL) rfl
theorem shape_res_6_A (s : State) : ExecShape .res_6_A s := .retires rfl (.resR8 6 .a) rfl
theorem shape_res_7_B (s : State) : ExecShape .res_7_B s := .retires rfl (.resR8 7 .b) rfl
theorem shape_res_7_C (s : State) : ExecShape .res_7_C s := .retires rfl (.resR8 7 .c) rfl
theorem shape_res_7_D (s : State) : ExecShape .res_7_D s := .retires rfl (.resR8 7 .d) rfl
theorem shape_res_7_E (s : State) : ExecShape .res_7_E s := .retires rfl (.resR8 7 .e) rfl
theorem shape_res_7_H (s : State) : ExecShape .res_7_H s := .retires rfl (.resR8 7 .h) rfl
theorem shape_res_7_L (s : State) : ExecShape .res_7_L s := .retires rfl (.resR8 7 .l) rfl
theorem shape_res_7_atHL (s : State) : ExecShape .res_7_atHL s := .retires rfl (.resR8 7 .atHL) rfl
theorem shape_res_7_A (s : State) : ExecShape .res_7_A s := .retires rfl (.resR8 7 .a) rfl
theorem shape_set_0_B (s : State) : ExecShape .set_0_B s := .retires rfl (.setR8 0 .b) rfl
theorem shape_set_0_C (s : State) : ExecShape .set_0_C s := .retires rfl (.setR8 0 .c) rfl
theorem shape_set_0_D (s : State) : ExecShape .set_0_D s := .retires rfl (.setR8 0 .d) rfl
theorem shape_set_0_E (s : State) : ExecShape .set_0_E s := .retires rfl (.setR8 0 .e) rfl
theorem shape_set_0_H (s : State) : ExecShape .set_0_H s := .retires rfl (.setR8 0 .h) rfl
theorem shape_set_0_L (s : State) : ExecShape .set_0_L s := .retires rfl (.setR8 0 .l) rfl
theorem shape_set_0_atHL (s : State) : ExecShape .set_0_atHL s := .retires rfl (.setR8 0 .atHL) rfl
theorem shape_set_0_A (s : State) : ExecShape .set_0_A s := .retires rfl (.setR8 0 .a) rfl
theorem shape_set_1_B (s : State) : ExecShape .set_1_B s := .retires rfl (.setR8 1 .b) rfl
theorem shape_set_1_C (s : State) : ExecShape .set_1_C s := .retires rfl (.setR8 1 .c) rfl
theorem shape_set_1_D (s : State) : ExecShape .set_1_D s := .retires rfl (.setR8 1 .d) rfl
theorem shape_set_1_E (s : State) : ExecShape .set_1_E s := .retires rfl (.setR8 1 .e) rfl
theorem shape_set_1_H (s : State) : ExecShape .set_1_H s := .retires rfl (.setR8 1 .h) rfl
theorem shape_set_1_L (s : State) : ExecShape .set_1_L s := .retires rfl (.setR8 1 .l) rfl
theorem shape_set_1_atHL (s : State) : ExecShape .set_1_atHL s := .retires rfl (.setR8 1 .atHL) rfl
theorem shape_set_1_A (s : State) : ExecShape .set_1_A s := .retires rfl (.setR8 1 .a) rfl
theorem shape_set_2_B (s : State) : ExecShape .set_2_B s := .retires rfl (.setR8 2 .b) rfl
theorem shape_set_2_C (s : State) : ExecShape .set_2_C s := .retires rfl (.setR8 2 .c) rfl
theorem shape_set_2_D (s : State) : ExecShape .set_2_D s := .retires rfl (.setR8 2 .d) rfl
theorem shape_set_2_E (s : State) : ExecShape .set_2_E s := .retires rfl (.setR8 2 .e) rfl
theorem shape_set_2_H (s : State) : ExecShape .set_2_H s := .retires rfl (.setR8 2 .h) rfl
theorem shape_set_2_L (s : State) : ExecShape .set_2_L s := .retires rfl (.setR8 2 .l) rfl
theorem shape_set_2_atHL (s : State) : ExecShape .set_2_atHL s := .retires rfl (.setR8 2 .atHL) rfl
theorem shape_set_2_A (s : State) : ExecShape .set_2_A s := .retires rfl (.setR8 2 .a) rfl
theorem shape_set_3_B (s : State) : ExecShape .set_3_B s := .retires rfl (.setR8 3 .b) rfl
theorem shape_set_3_C (s : State) : ExecShape .set_3_C s := .retires rfl (.setR8 3 .c) rfl
theorem shape_set_3_D (s : State) : ExecShape .set_3_D s := .retires rfl (.setR8 3 .d) rfl
theorem shape_set_3_E (s : State) : ExecShape .set_3_E s := .retires rfl (.setR8 3 .e) rfl
theorem shape_set_3_H (s : State) : ExecShape .set_3_H s := .retires rfl (.setR8 3 .h) rfl
theorem shape_set_3_L (s : State) : ExecShape .set_3_L s := .retires rfl (.setR8 3 .l) rfl
theorem shape_set_3_atHL (s : State) : ExecShape .set_3_atHL s := .retires rfl (.setR8 3 .atHL) rfl
theorem shape_set_3_A (s : State) : ExecShape .set_3_A s := .retires rfl (.setR8 3 .a) rfl
theorem shape_set_4_B (s : State) : ExecShape .set_4_B s := .retires rfl (.setR8 4 .b) rfl
theorem shape_set_4_C (s : State) : ExecShape .set_4_C s := .retires rfl (.setR8 4 .c) rfl
theorem shape_set_4_D (s : State) : ExecShape .set_4_D s := .retires rfl (.setR8 4 .d) rfl
theorem shape_set_4_E (s : State) : ExecShape .set_4_E s := .retires rfl (.setR8 4 .e) rfl
theorem shape_set_4_H (s : State) : ExecShape .set_4_H s := .retires rfl (.setR8 4 .h) rfl
theorem shape_set_4_L (s : State) : ExecShape .set_4_L s := .retires rfl (.setR8 4 .l) rfl
theorem shape_set_4_atHL (s : State) : ExecShape .set_4_atHL s := .retires rfl (.setR8 4 .atHL) rfl
theorem shape_set_4_A (s : State) : ExecShape .set_4_A s := .retires rfl (.setR8 4 .a) rfl
theorem shape_set_5_B (s : State) : ExecShape .set_5_B s := .retires rfl (.setR8 5 .b) rfl
theorem shape_set_5_C (s : State) : ExecShape .set_5_C s := .retires rfl (.setR8 5 .c) rfl
theorem shape_set_5_D (s : State) : ExecShape .set_5_D s := .retires rfl (.setR8 5 .d) rfl
theorem shape_set_5_E (s : State) : ExecShape .set_5_E s := .retires rfl (.setR8 5 .e) rfl
theorem shape_set_5_H (s : State) : ExecShape .set_5_H s := .retires rfl (.setR8 5 .h) rfl
theorem shape_set_5_L (s : State) : ExecShape .set_5_L s := .retires rfl (.setR8 5 .l) rfl
theorem shape_set_5_atHL (s : State) : ExecShape .set_5_atHL s := .retires rfl (.setR8 5 .atHL) rfl
theorem shape_set_5_A (s : State) : ExecShape .set_5_A s := .retires rfl (.setR8 5 .a) rfl
theorem shape_set_6_B (s : State) : ExecShape .set_6_B s := .retires rfl (.setR8 6 .b) rfl
theorem shape_set_6_C (s : State) : ExecShape .set_6_C s := .retires rfl (.setR8 6 .c) rfl
theorem shape_set_6_D (s : State) : ExecShape .set_6_D s := .retires rfl (.setR8 6 .d) rfl
theorem shape_set_6_E (s : State) : ExecShape .set_6_E s := .retires rfl (.setR8 6 .e) rfl
theorem shape_set_6_H (s : State) : ExecShape .set_6_H s := .retires rfl (.setR8 6 .h) rfl
theorem shape_set_6_L (s : State) : ExecShape .set_6_L s := .retires rfl (.setR8 6 .l) rfl
theorem shape_set_6_atHL (s : State) : ExecShape .set_6_atHL s := .retires rfl (.setR8 6 .atHL) rfl
theorem shape_set_6_A (s : State) : ExecShape .set_6_A s := .retires rfl (.setR8 6 .a) rfl
theorem shape_set_7_B (s : State) : ExecShape .set_7_B s := .retires rfl (.setR8 7 .b) rfl
theorem shape_set_7_C (s : State) : ExecShape .set_7_C s := .retires rfl (.setR8 7 .c) rfl
theorem shape_set_7_D (s : State) : ExecShape .set_7_D s := .retires rfl (.setR8 7 .d) rfl
theorem shape_set_7_E (s : State) : ExecShape .set_7_E s := .retires rfl (.setR8 7 .e) rfl
theorem shape_set_7_H (s : State) : ExecShape .set_7_H s := .retires rfl (.setR8 7 .h) rfl
theorem shape_set_7_L (s : State) : ExecShape .set_7_L s := .retires rfl (.setR8 7 .l) rfl
theorem shape_set_7_atHL (s : State) : ExecShape .set_7_atHL s := .retires rfl (.setR8 7 .atHL) rfl
theorem shape_set_7_A (s : State) : ExecShape .set_7_A s := .retires rfl (.setR8 7 .a) rfl

/-- Every instruction retires a shared effect or, for the eleven illegal bytes, is the decode fault. -/
theorem exec_cases (i : Instr) (s : State) : ExecShape i s := by
  cases i with
  | nop => exact shape_nop s
  | ld_BC_d16 d16 => exact shape_ld_BC_d16 d16 s
  | ld_atBC_A => exact shape_ld_atBC_A s
  | inc_BC => exact shape_inc_BC s
  | inc_B => exact shape_inc_B s
  | dec_B => exact shape_dec_B s
  | ld_B_d8 d8 => exact shape_ld_B_d8 d8 s
  | rlca => exact shape_rlca s
  | ld_atA16_SP a16 => exact shape_ld_atA16_SP a16 s
  | add_HL_BC => exact shape_add_HL_BC s
  | ld_A_atBC => exact shape_ld_A_atBC s
  | dec_BC => exact shape_dec_BC s
  | inc_C => exact shape_inc_C s
  | dec_C => exact shape_dec_C s
  | ld_C_d8 d8 => exact shape_ld_C_d8 d8 s
  | rrca => exact shape_rrca s
  | stop second => exact shape_stop second s
  | ld_DE_d16 d16 => exact shape_ld_DE_d16 d16 s
  | ld_atDE_A => exact shape_ld_atDE_A s
  | inc_DE => exact shape_inc_DE s
  | inc_D => exact shape_inc_D s
  | dec_D => exact shape_dec_D s
  | ld_D_d8 d8 => exact shape_ld_D_d8 d8 s
  | rla => exact shape_rla s
  | jr_e8 e8 => exact shape_jr_e8 e8 s
  | add_HL_DE => exact shape_add_HL_DE s
  | ld_A_atDE => exact shape_ld_A_atDE s
  | dec_DE => exact shape_dec_DE s
  | inc_E => exact shape_inc_E s
  | dec_E => exact shape_dec_E s
  | ld_E_d8 d8 => exact shape_ld_E_d8 d8 s
  | rra => exact shape_rra s
  | jr_NZ_e8 e8 => exact shape_jr_NZ_e8 e8 s
  | ld_HL_d16 d16 => exact shape_ld_HL_d16 d16 s
  | ld_atHLinc_A => exact shape_ld_atHLinc_A s
  | inc_HL => exact shape_inc_HL s
  | inc_H => exact shape_inc_H s
  | dec_H => exact shape_dec_H s
  | ld_H_d8 d8 => exact shape_ld_H_d8 d8 s
  | daa => exact shape_daa s
  | jr_Z_e8 e8 => exact shape_jr_Z_e8 e8 s
  | add_HL_HL => exact shape_add_HL_HL s
  | ld_A_atHLinc => exact shape_ld_A_atHLinc s
  | dec_HL => exact shape_dec_HL s
  | inc_L => exact shape_inc_L s
  | dec_L => exact shape_dec_L s
  | ld_L_d8 d8 => exact shape_ld_L_d8 d8 s
  | cpl => exact shape_cpl s
  | jr_NC_e8 e8 => exact shape_jr_NC_e8 e8 s
  | ld_SP_d16 d16 => exact shape_ld_SP_d16 d16 s
  | ld_atHLdec_A => exact shape_ld_atHLdec_A s
  | inc_SP => exact shape_inc_SP s
  | inc_atHL => exact shape_inc_atHL s
  | dec_atHL => exact shape_dec_atHL s
  | ld_atHL_d8 d8 => exact shape_ld_atHL_d8 d8 s
  | scf => exact shape_scf s
  | jr_C_e8 e8 => exact shape_jr_C_e8 e8 s
  | add_HL_SP => exact shape_add_HL_SP s
  | ld_A_atHLdec => exact shape_ld_A_atHLdec s
  | dec_SP => exact shape_dec_SP s
  | inc_A => exact shape_inc_A s
  | dec_A => exact shape_dec_A s
  | ld_A_d8 d8 => exact shape_ld_A_d8 d8 s
  | ccf => exact shape_ccf s
  | ld_B_B => exact shape_ld_B_B s
  | ld_B_C => exact shape_ld_B_C s
  | ld_B_D => exact shape_ld_B_D s
  | ld_B_E => exact shape_ld_B_E s
  | ld_B_H => exact shape_ld_B_H s
  | ld_B_L => exact shape_ld_B_L s
  | ld_B_atHL => exact shape_ld_B_atHL s
  | ld_B_A => exact shape_ld_B_A s
  | ld_C_B => exact shape_ld_C_B s
  | ld_C_C => exact shape_ld_C_C s
  | ld_C_D => exact shape_ld_C_D s
  | ld_C_E => exact shape_ld_C_E s
  | ld_C_H => exact shape_ld_C_H s
  | ld_C_L => exact shape_ld_C_L s
  | ld_C_atHL => exact shape_ld_C_atHL s
  | ld_C_A => exact shape_ld_C_A s
  | ld_D_B => exact shape_ld_D_B s
  | ld_D_C => exact shape_ld_D_C s
  | ld_D_D => exact shape_ld_D_D s
  | ld_D_E => exact shape_ld_D_E s
  | ld_D_H => exact shape_ld_D_H s
  | ld_D_L => exact shape_ld_D_L s
  | ld_D_atHL => exact shape_ld_D_atHL s
  | ld_D_A => exact shape_ld_D_A s
  | ld_E_B => exact shape_ld_E_B s
  | ld_E_C => exact shape_ld_E_C s
  | ld_E_D => exact shape_ld_E_D s
  | ld_E_E => exact shape_ld_E_E s
  | ld_E_H => exact shape_ld_E_H s
  | ld_E_L => exact shape_ld_E_L s
  | ld_E_atHL => exact shape_ld_E_atHL s
  | ld_E_A => exact shape_ld_E_A s
  | ld_H_B => exact shape_ld_H_B s
  | ld_H_C => exact shape_ld_H_C s
  | ld_H_D => exact shape_ld_H_D s
  | ld_H_E => exact shape_ld_H_E s
  | ld_H_H => exact shape_ld_H_H s
  | ld_H_L => exact shape_ld_H_L s
  | ld_H_atHL => exact shape_ld_H_atHL s
  | ld_H_A => exact shape_ld_H_A s
  | ld_L_B => exact shape_ld_L_B s
  | ld_L_C => exact shape_ld_L_C s
  | ld_L_D => exact shape_ld_L_D s
  | ld_L_E => exact shape_ld_L_E s
  | ld_L_H => exact shape_ld_L_H s
  | ld_L_L => exact shape_ld_L_L s
  | ld_L_atHL => exact shape_ld_L_atHL s
  | ld_L_A => exact shape_ld_L_A s
  | ld_atHL_B => exact shape_ld_atHL_B s
  | ld_atHL_C => exact shape_ld_atHL_C s
  | ld_atHL_D => exact shape_ld_atHL_D s
  | ld_atHL_E => exact shape_ld_atHL_E s
  | ld_atHL_H => exact shape_ld_atHL_H s
  | ld_atHL_L => exact shape_ld_atHL_L s
  | halt => exact shape_halt s
  | ld_atHL_A => exact shape_ld_atHL_A s
  | ld_A_B => exact shape_ld_A_B s
  | ld_A_C => exact shape_ld_A_C s
  | ld_A_D => exact shape_ld_A_D s
  | ld_A_E => exact shape_ld_A_E s
  | ld_A_H => exact shape_ld_A_H s
  | ld_A_L => exact shape_ld_A_L s
  | ld_A_atHL => exact shape_ld_A_atHL s
  | ld_A_A => exact shape_ld_A_A s
  | add_A_B => exact shape_add_A_B s
  | add_A_C => exact shape_add_A_C s
  | add_A_D => exact shape_add_A_D s
  | add_A_E => exact shape_add_A_E s
  | add_A_H => exact shape_add_A_H s
  | add_A_L => exact shape_add_A_L s
  | add_A_atHL => exact shape_add_A_atHL s
  | add_A_A => exact shape_add_A_A s
  | adc_A_B => exact shape_adc_A_B s
  | adc_A_C => exact shape_adc_A_C s
  | adc_A_D => exact shape_adc_A_D s
  | adc_A_E => exact shape_adc_A_E s
  | adc_A_H => exact shape_adc_A_H s
  | adc_A_L => exact shape_adc_A_L s
  | adc_A_atHL => exact shape_adc_A_atHL s
  | adc_A_A => exact shape_adc_A_A s
  | sub_B => exact shape_sub_B s
  | sub_C => exact shape_sub_C s
  | sub_D => exact shape_sub_D s
  | sub_E => exact shape_sub_E s
  | sub_H => exact shape_sub_H s
  | sub_L => exact shape_sub_L s
  | sub_atHL => exact shape_sub_atHL s
  | sub_A => exact shape_sub_A s
  | sbc_A_B => exact shape_sbc_A_B s
  | sbc_A_C => exact shape_sbc_A_C s
  | sbc_A_D => exact shape_sbc_A_D s
  | sbc_A_E => exact shape_sbc_A_E s
  | sbc_A_H => exact shape_sbc_A_H s
  | sbc_A_L => exact shape_sbc_A_L s
  | sbc_A_atHL => exact shape_sbc_A_atHL s
  | sbc_A_A => exact shape_sbc_A_A s
  | and_B => exact shape_and_B s
  | and_C => exact shape_and_C s
  | and_D => exact shape_and_D s
  | and_E => exact shape_and_E s
  | and_H => exact shape_and_H s
  | and_L => exact shape_and_L s
  | and_atHL => exact shape_and_atHL s
  | and_A => exact shape_and_A s
  | xor_B => exact shape_xor_B s
  | xor_C => exact shape_xor_C s
  | xor_D => exact shape_xor_D s
  | xor_E => exact shape_xor_E s
  | xor_H => exact shape_xor_H s
  | xor_L => exact shape_xor_L s
  | xor_atHL => exact shape_xor_atHL s
  | xor_A => exact shape_xor_A s
  | or_B => exact shape_or_B s
  | or_C => exact shape_or_C s
  | or_D => exact shape_or_D s
  | or_E => exact shape_or_E s
  | or_H => exact shape_or_H s
  | or_L => exact shape_or_L s
  | or_atHL => exact shape_or_atHL s
  | or_A => exact shape_or_A s
  | cp_B => exact shape_cp_B s
  | cp_C => exact shape_cp_C s
  | cp_D => exact shape_cp_D s
  | cp_E => exact shape_cp_E s
  | cp_H => exact shape_cp_H s
  | cp_L => exact shape_cp_L s
  | cp_atHL => exact shape_cp_atHL s
  | cp_A => exact shape_cp_A s
  | ret_NZ => exact shape_ret_NZ s
  | pop_BC => exact shape_pop_BC s
  | jp_NZ_a16 a16 => exact shape_jp_NZ_a16 a16 s
  | jp_a16 a16 => exact shape_jp_a16 a16 s
  | call_NZ_a16 a16 => exact shape_call_NZ_a16 a16 s
  | push_BC => exact shape_push_BC s
  | add_A_d8 d8 => exact shape_add_A_d8 d8 s
  | rst_00H => exact shape_rst_00H s
  | ret_Z => exact shape_ret_Z s
  | ret => exact shape_ret s
  | jp_Z_a16 a16 => exact shape_jp_Z_a16 a16 s
  | call_Z_a16 a16 => exact shape_call_Z_a16 a16 s
  | call_a16 a16 => exact shape_call_a16 a16 s
  | adc_A_d8 d8 => exact shape_adc_A_d8 d8 s
  | rst_08H => exact shape_rst_08H s
  | ret_NC => exact shape_ret_NC s
  | pop_DE => exact shape_pop_DE s
  | jp_NC_a16 a16 => exact shape_jp_NC_a16 a16 s
  | illegal_D3 => exact shape_illegal_D3 s
  | call_NC_a16 a16 => exact shape_call_NC_a16 a16 s
  | push_DE => exact shape_push_DE s
  | sub_d8 d8 => exact shape_sub_d8 d8 s
  | rst_10H => exact shape_rst_10H s
  | ret_C => exact shape_ret_C s
  | reti => exact shape_reti s
  | jp_C_a16 a16 => exact shape_jp_C_a16 a16 s
  | illegal_DB => exact shape_illegal_DB s
  | call_C_a16 a16 => exact shape_call_C_a16 a16 s
  | illegal_DD => exact shape_illegal_DD s
  | sbc_A_d8 d8 => exact shape_sbc_A_d8 d8 s
  | rst_18H => exact shape_rst_18H s
  | ldh_atA8_A a8 => exact shape_ldh_atA8_A a8 s
  | pop_HL => exact shape_pop_HL s
  | ld_atC_A => exact shape_ld_atC_A s
  | illegal_E3 => exact shape_illegal_E3 s
  | illegal_E4 => exact shape_illegal_E4 s
  | push_HL => exact shape_push_HL s
  | and_d8 d8 => exact shape_and_d8 d8 s
  | rst_20H => exact shape_rst_20H s
  | add_SP_e8 e8 => exact shape_add_SP_e8 e8 s
  | jp_HL => exact shape_jp_HL s
  | ld_atA16_A a16 => exact shape_ld_atA16_A a16 s
  | illegal_EB => exact shape_illegal_EB s
  | illegal_EC => exact shape_illegal_EC s
  | illegal_ED => exact shape_illegal_ED s
  | xor_d8 d8 => exact shape_xor_d8 d8 s
  | rst_28H => exact shape_rst_28H s
  | ldh_A_atA8 a8 => exact shape_ldh_A_atA8 a8 s
  | pop_AF => exact shape_pop_AF s
  | ld_A_atC => exact shape_ld_A_atC s
  | di => exact shape_di s
  | illegal_F4 => exact shape_illegal_F4 s
  | push_AF => exact shape_push_AF s
  | or_d8 d8 => exact shape_or_d8 d8 s
  | rst_30H => exact shape_rst_30H s
  | ld_HL_SPe8 e8 => exact shape_ld_HL_SPe8 e8 s
  | ld_SP_HL => exact shape_ld_SP_HL s
  | ld_A_atA16 a16 => exact shape_ld_A_atA16 a16 s
  | ei => exact shape_ei s
  | illegal_FC => exact shape_illegal_FC s
  | illegal_FD => exact shape_illegal_FD s
  | cp_d8 d8 => exact shape_cp_d8 d8 s
  | rst_38H => exact shape_rst_38H s
  | rlc_B => exact shape_rlc_B s
  | rlc_C => exact shape_rlc_C s
  | rlc_D => exact shape_rlc_D s
  | rlc_E => exact shape_rlc_E s
  | rlc_H => exact shape_rlc_H s
  | rlc_L => exact shape_rlc_L s
  | rlc_atHL => exact shape_rlc_atHL s
  | rlc_A => exact shape_rlc_A s
  | rrc_B => exact shape_rrc_B s
  | rrc_C => exact shape_rrc_C s
  | rrc_D => exact shape_rrc_D s
  | rrc_E => exact shape_rrc_E s
  | rrc_H => exact shape_rrc_H s
  | rrc_L => exact shape_rrc_L s
  | rrc_atHL => exact shape_rrc_atHL s
  | rrc_A => exact shape_rrc_A s
  | rl_B => exact shape_rl_B s
  | rl_C => exact shape_rl_C s
  | rl_D => exact shape_rl_D s
  | rl_E => exact shape_rl_E s
  | rl_H => exact shape_rl_H s
  | rl_L => exact shape_rl_L s
  | rl_atHL => exact shape_rl_atHL s
  | rl_A => exact shape_rl_A s
  | rr_B => exact shape_rr_B s
  | rr_C => exact shape_rr_C s
  | rr_D => exact shape_rr_D s
  | rr_E => exact shape_rr_E s
  | rr_H => exact shape_rr_H s
  | rr_L => exact shape_rr_L s
  | rr_atHL => exact shape_rr_atHL s
  | rr_A => exact shape_rr_A s
  | sla_B => exact shape_sla_B s
  | sla_C => exact shape_sla_C s
  | sla_D => exact shape_sla_D s
  | sla_E => exact shape_sla_E s
  | sla_H => exact shape_sla_H s
  | sla_L => exact shape_sla_L s
  | sla_atHL => exact shape_sla_atHL s
  | sla_A => exact shape_sla_A s
  | sra_B => exact shape_sra_B s
  | sra_C => exact shape_sra_C s
  | sra_D => exact shape_sra_D s
  | sra_E => exact shape_sra_E s
  | sra_H => exact shape_sra_H s
  | sra_L => exact shape_sra_L s
  | sra_atHL => exact shape_sra_atHL s
  | sra_A => exact shape_sra_A s
  | swap_B => exact shape_swap_B s
  | swap_C => exact shape_swap_C s
  | swap_D => exact shape_swap_D s
  | swap_E => exact shape_swap_E s
  | swap_H => exact shape_swap_H s
  | swap_L => exact shape_swap_L s
  | swap_atHL => exact shape_swap_atHL s
  | swap_A => exact shape_swap_A s
  | srl_B => exact shape_srl_B s
  | srl_C => exact shape_srl_C s
  | srl_D => exact shape_srl_D s
  | srl_E => exact shape_srl_E s
  | srl_H => exact shape_srl_H s
  | srl_L => exact shape_srl_L s
  | srl_atHL => exact shape_srl_atHL s
  | srl_A => exact shape_srl_A s
  | bit_0_B => exact shape_bit_0_B s
  | bit_0_C => exact shape_bit_0_C s
  | bit_0_D => exact shape_bit_0_D s
  | bit_0_E => exact shape_bit_0_E s
  | bit_0_H => exact shape_bit_0_H s
  | bit_0_L => exact shape_bit_0_L s
  | bit_0_atHL => exact shape_bit_0_atHL s
  | bit_0_A => exact shape_bit_0_A s
  | bit_1_B => exact shape_bit_1_B s
  | bit_1_C => exact shape_bit_1_C s
  | bit_1_D => exact shape_bit_1_D s
  | bit_1_E => exact shape_bit_1_E s
  | bit_1_H => exact shape_bit_1_H s
  | bit_1_L => exact shape_bit_1_L s
  | bit_1_atHL => exact shape_bit_1_atHL s
  | bit_1_A => exact shape_bit_1_A s
  | bit_2_B => exact shape_bit_2_B s
  | bit_2_C => exact shape_bit_2_C s
  | bit_2_D => exact shape_bit_2_D s
  | bit_2_E => exact shape_bit_2_E s
  | bit_2_H => exact shape_bit_2_H s
  | bit_2_L => exact shape_bit_2_L s
  | bit_2_atHL => exact shape_bit_2_atHL s
  | bit_2_A => exact shape_bit_2_A s
  | bit_3_B => exact shape_bit_3_B s
  | bit_3_C => exact shape_bit_3_C s
  | bit_3_D => exact shape_bit_3_D s
  | bit_3_E => exact shape_bit_3_E s
  | bit_3_H => exact shape_bit_3_H s
  | bit_3_L => exact shape_bit_3_L s
  | bit_3_atHL => exact shape_bit_3_atHL s
  | bit_3_A => exact shape_bit_3_A s
  | bit_4_B => exact shape_bit_4_B s
  | bit_4_C => exact shape_bit_4_C s
  | bit_4_D => exact shape_bit_4_D s
  | bit_4_E => exact shape_bit_4_E s
  | bit_4_H => exact shape_bit_4_H s
  | bit_4_L => exact shape_bit_4_L s
  | bit_4_atHL => exact shape_bit_4_atHL s
  | bit_4_A => exact shape_bit_4_A s
  | bit_5_B => exact shape_bit_5_B s
  | bit_5_C => exact shape_bit_5_C s
  | bit_5_D => exact shape_bit_5_D s
  | bit_5_E => exact shape_bit_5_E s
  | bit_5_H => exact shape_bit_5_H s
  | bit_5_L => exact shape_bit_5_L s
  | bit_5_atHL => exact shape_bit_5_atHL s
  | bit_5_A => exact shape_bit_5_A s
  | bit_6_B => exact shape_bit_6_B s
  | bit_6_C => exact shape_bit_6_C s
  | bit_6_D => exact shape_bit_6_D s
  | bit_6_E => exact shape_bit_6_E s
  | bit_6_H => exact shape_bit_6_H s
  | bit_6_L => exact shape_bit_6_L s
  | bit_6_atHL => exact shape_bit_6_atHL s
  | bit_6_A => exact shape_bit_6_A s
  | bit_7_B => exact shape_bit_7_B s
  | bit_7_C => exact shape_bit_7_C s
  | bit_7_D => exact shape_bit_7_D s
  | bit_7_E => exact shape_bit_7_E s
  | bit_7_H => exact shape_bit_7_H s
  | bit_7_L => exact shape_bit_7_L s
  | bit_7_atHL => exact shape_bit_7_atHL s
  | bit_7_A => exact shape_bit_7_A s
  | res_0_B => exact shape_res_0_B s
  | res_0_C => exact shape_res_0_C s
  | res_0_D => exact shape_res_0_D s
  | res_0_E => exact shape_res_0_E s
  | res_0_H => exact shape_res_0_H s
  | res_0_L => exact shape_res_0_L s
  | res_0_atHL => exact shape_res_0_atHL s
  | res_0_A => exact shape_res_0_A s
  | res_1_B => exact shape_res_1_B s
  | res_1_C => exact shape_res_1_C s
  | res_1_D => exact shape_res_1_D s
  | res_1_E => exact shape_res_1_E s
  | res_1_H => exact shape_res_1_H s
  | res_1_L => exact shape_res_1_L s
  | res_1_atHL => exact shape_res_1_atHL s
  | res_1_A => exact shape_res_1_A s
  | res_2_B => exact shape_res_2_B s
  | res_2_C => exact shape_res_2_C s
  | res_2_D => exact shape_res_2_D s
  | res_2_E => exact shape_res_2_E s
  | res_2_H => exact shape_res_2_H s
  | res_2_L => exact shape_res_2_L s
  | res_2_atHL => exact shape_res_2_atHL s
  | res_2_A => exact shape_res_2_A s
  | res_3_B => exact shape_res_3_B s
  | res_3_C => exact shape_res_3_C s
  | res_3_D => exact shape_res_3_D s
  | res_3_E => exact shape_res_3_E s
  | res_3_H => exact shape_res_3_H s
  | res_3_L => exact shape_res_3_L s
  | res_3_atHL => exact shape_res_3_atHL s
  | res_3_A => exact shape_res_3_A s
  | res_4_B => exact shape_res_4_B s
  | res_4_C => exact shape_res_4_C s
  | res_4_D => exact shape_res_4_D s
  | res_4_E => exact shape_res_4_E s
  | res_4_H => exact shape_res_4_H s
  | res_4_L => exact shape_res_4_L s
  | res_4_atHL => exact shape_res_4_atHL s
  | res_4_A => exact shape_res_4_A s
  | res_5_B => exact shape_res_5_B s
  | res_5_C => exact shape_res_5_C s
  | res_5_D => exact shape_res_5_D s
  | res_5_E => exact shape_res_5_E s
  | res_5_H => exact shape_res_5_H s
  | res_5_L => exact shape_res_5_L s
  | res_5_atHL => exact shape_res_5_atHL s
  | res_5_A => exact shape_res_5_A s
  | res_6_B => exact shape_res_6_B s
  | res_6_C => exact shape_res_6_C s
  | res_6_D => exact shape_res_6_D s
  | res_6_E => exact shape_res_6_E s
  | res_6_H => exact shape_res_6_H s
  | res_6_L => exact shape_res_6_L s
  | res_6_atHL => exact shape_res_6_atHL s
  | res_6_A => exact shape_res_6_A s
  | res_7_B => exact shape_res_7_B s
  | res_7_C => exact shape_res_7_C s
  | res_7_D => exact shape_res_7_D s
  | res_7_E => exact shape_res_7_E s
  | res_7_H => exact shape_res_7_H s
  | res_7_L => exact shape_res_7_L s
  | res_7_atHL => exact shape_res_7_atHL s
  | res_7_A => exact shape_res_7_A s
  | set_0_B => exact shape_set_0_B s
  | set_0_C => exact shape_set_0_C s
  | set_0_D => exact shape_set_0_D s
  | set_0_E => exact shape_set_0_E s
  | set_0_H => exact shape_set_0_H s
  | set_0_L => exact shape_set_0_L s
  | set_0_atHL => exact shape_set_0_atHL s
  | set_0_A => exact shape_set_0_A s
  | set_1_B => exact shape_set_1_B s
  | set_1_C => exact shape_set_1_C s
  | set_1_D => exact shape_set_1_D s
  | set_1_E => exact shape_set_1_E s
  | set_1_H => exact shape_set_1_H s
  | set_1_L => exact shape_set_1_L s
  | set_1_atHL => exact shape_set_1_atHL s
  | set_1_A => exact shape_set_1_A s
  | set_2_B => exact shape_set_2_B s
  | set_2_C => exact shape_set_2_C s
  | set_2_D => exact shape_set_2_D s
  | set_2_E => exact shape_set_2_E s
  | set_2_H => exact shape_set_2_H s
  | set_2_L => exact shape_set_2_L s
  | set_2_atHL => exact shape_set_2_atHL s
  | set_2_A => exact shape_set_2_A s
  | set_3_B => exact shape_set_3_B s
  | set_3_C => exact shape_set_3_C s
  | set_3_D => exact shape_set_3_D s
  | set_3_E => exact shape_set_3_E s
  | set_3_H => exact shape_set_3_H s
  | set_3_L => exact shape_set_3_L s
  | set_3_atHL => exact shape_set_3_atHL s
  | set_3_A => exact shape_set_3_A s
  | set_4_B => exact shape_set_4_B s
  | set_4_C => exact shape_set_4_C s
  | set_4_D => exact shape_set_4_D s
  | set_4_E => exact shape_set_4_E s
  | set_4_H => exact shape_set_4_H s
  | set_4_L => exact shape_set_4_L s
  | set_4_atHL => exact shape_set_4_atHL s
  | set_4_A => exact shape_set_4_A s
  | set_5_B => exact shape_set_5_B s
  | set_5_C => exact shape_set_5_C s
  | set_5_D => exact shape_set_5_D s
  | set_5_E => exact shape_set_5_E s
  | set_5_H => exact shape_set_5_H s
  | set_5_L => exact shape_set_5_L s
  | set_5_atHL => exact shape_set_5_atHL s
  | set_5_A => exact shape_set_5_A s
  | set_6_B => exact shape_set_6_B s
  | set_6_C => exact shape_set_6_C s
  | set_6_D => exact shape_set_6_D s
  | set_6_E => exact shape_set_6_E s
  | set_6_H => exact shape_set_6_H s
  | set_6_L => exact shape_set_6_L s
  | set_6_atHL => exact shape_set_6_atHL s
  | set_6_A => exact shape_set_6_A s
  | set_7_B => exact shape_set_7_B s
  | set_7_C => exact shape_set_7_C s
  | set_7_D => exact shape_set_7_D s
  | set_7_E => exact shape_set_7_E s
  | set_7_H => exact shape_set_7_H s
  | set_7_L => exact shape_set_7_L s
  | set_7_atHL => exact shape_set_7_atHL s
  | set_7_A => exact shape_set_7_A s

end Sys2Proof.Machine
end

