-- ==== Sys2Proof/Laws/PerInstr.lean ====
section
/-! SUPPORT. Per instruction: decoding the bytes of its encoding gives it back, with every operand at every value, and its
first byte tells its length (30_encoding R150 to R165). -/

namespace Sys2Proof.Laws.RoundTrip

/-- Decoding `i`'s own bytes, whatever follows them, gives `i`, and the first byte tells how many there are. -/
def Statement (i : Instr) : Prop :=
  ∀ x y : Byte,
    decode3 ((encode i).getD 0 x) ((encode i).getD 1 x) ((encode i).getD 2 y) = i ∧
      opcodeLength ((encode i).getD 0 x) = (encode i).length

/-- The two bytes of a word, low byte first, put together again. -/
theorem word_bytes (w : Word) : (w.extractLsb' 8 8 ++ w.extractLsb' 0 8 : Word) = w := by
  apply BitVec.eq_of_getLsbD_eq
  intro i hi
  rw [BitVec.getLsbD_append, BitVec.getLsbD_extractLsb', BitVec.getLsbD_extractLsb']
  by_cases h : i < 8
  · simp [h]
  · have h1 : i - 8 < 8 := by omega
    have h2 : 8 + (i - 8) = i := by omega
    simp [h, h1, h2]

/-- From the facts of a one-byte row. -/
theorem of_one {i : Instr} (op : Byte) (he : encode i = [op]) (hd : ∀ x y, decode3 op x y = i)
    (hl : opcodeLength op = 1) : Statement i := by
  intro x y; rw [he]; exact ⟨hd x y, hl⟩

/-- From the facts of a two-byte row. -/
theorem of_two {i : Instr} (op n : Byte) (he : encode i = [op, n]) (hd : ∀ y, decode3 op n y = i)
    (hl : opcodeLength op = 2) : Statement i := by
  intro x y; rw [he]; exact ⟨hd y, hl⟩

/-- From the facts of a three-byte row. -/
theorem of_three {i : Word → Instr} (op : Byte) (w : Word) (he : encode (i w) = [op, w.extractLsb' 0 8, w.extractLsb' 8 8])
    (hd : ∀ x y : Byte, decode3 op x y = i (y ++ x)) (hl : opcodeLength op = 3) : Statement (i w) := by
  intro x y; rw [he]; exact ⟨(hd _ _).trans (congrArg i (word_bytes w)), hl⟩

theorem nop : Statement .nop := of_one 0x00 rfl (fun _ _ => rfl) rfl
theorem ld_BC_d16 (w : Word) : Statement (.ld_BC_d16 w) := of_three 0x01 w rfl (fun _ _ => rfl) rfl
theorem ld_atBC_A : Statement .ld_atBC_A := of_one 0x02 rfl (fun _ _ => rfl) rfl
theorem inc_BC : Statement .inc_BC := of_one 0x03 rfl (fun _ _ => rfl) rfl
theorem inc_B : Statement .inc_B := of_one 0x04 rfl (fun _ _ => rfl) rfl
theorem dec_B : Statement .dec_B := of_one 0x05 rfl (fun _ _ => rfl) rfl
theorem ld_B_d8 (n : Byte) : Statement (.ld_B_d8 n) := of_two 0x06 n rfl (fun _ => rfl) rfl
theorem rlca : Statement .rlca := of_one 0x07 rfl (fun _ _ => rfl) rfl
theorem ld_atA16_SP (w : Word) : Statement (.ld_atA16_SP w) := of_three 0x08 w rfl (fun _ _ => rfl) rfl
theorem add_HL_BC : Statement .add_HL_BC := of_one 0x09 rfl (fun _ _ => rfl) rfl
theorem ld_A_atBC : Statement .ld_A_atBC := of_one 0x0A rfl (fun _ _ => rfl) rfl
theorem dec_BC : Statement .dec_BC := of_one 0x0B rfl (fun _ _ => rfl) rfl
theorem inc_C : Statement .inc_C := of_one 0x0C rfl (fun _ _ => rfl) rfl
theorem dec_C : Statement .dec_C := of_one 0x0D rfl (fun _ _ => rfl) rfl
theorem ld_C_d8 (n : Byte) : Statement (.ld_C_d8 n) := of_two 0x0E n rfl (fun _ => rfl) rfl
theorem rrca : Statement .rrca := of_one 0x0F rfl (fun _ _ => rfl) rfl
theorem stop (n : Byte) : Statement (.stop n) := of_two 0x10 n rfl (fun _ => rfl) rfl
theorem ld_DE_d16 (w : Word) : Statement (.ld_DE_d16 w) := of_three 0x11 w rfl (fun _ _ => rfl) rfl
theorem ld_atDE_A : Statement .ld_atDE_A := of_one 0x12 rfl (fun _ _ => rfl) rfl
theorem inc_DE : Statement .inc_DE := of_one 0x13 rfl (fun _ _ => rfl) rfl
theorem inc_D : Statement .inc_D := of_one 0x14 rfl (fun _ _ => rfl) rfl
theorem dec_D : Statement .dec_D := of_one 0x15 rfl (fun _ _ => rfl) rfl
theorem ld_D_d8 (n : Byte) : Statement (.ld_D_d8 n) := of_two 0x16 n rfl (fun _ => rfl) rfl
theorem rla : Statement .rla := of_one 0x17 rfl (fun _ _ => rfl) rfl
theorem jr_e8 (n : Byte) : Statement (.jr_e8 n) := of_two 0x18 n rfl (fun _ => rfl) rfl
theorem add_HL_DE : Statement .add_HL_DE := of_one 0x19 rfl (fun _ _ => rfl) rfl
theorem ld_A_atDE : Statement .ld_A_atDE := of_one 0x1A rfl (fun _ _ => rfl) rfl
theorem dec_DE : Statement .dec_DE := of_one 0x1B rfl (fun _ _ => rfl) rfl
theorem inc_E : Statement .inc_E := of_one 0x1C rfl (fun _ _ => rfl) rfl
theorem dec_E : Statement .dec_E := of_one 0x1D rfl (fun _ _ => rfl) rfl
theorem ld_E_d8 (n : Byte) : Statement (.ld_E_d8 n) := of_two 0x1E n rfl (fun _ => rfl) rfl
theorem rra : Statement .rra := of_one 0x1F rfl (fun _ _ => rfl) rfl
theorem jr_NZ_e8 (n : Byte) : Statement (.jr_NZ_e8 n) := of_two 0x20 n rfl (fun _ => rfl) rfl
theorem ld_HL_d16 (w : Word) : Statement (.ld_HL_d16 w) := of_three 0x21 w rfl (fun _ _ => rfl) rfl
theorem ld_atHLinc_A : Statement .ld_atHLinc_A := of_one 0x22 rfl (fun _ _ => rfl) rfl
theorem inc_HL : Statement .inc_HL := of_one 0x23 rfl (fun _ _ => rfl) rfl
theorem inc_H : Statement .inc_H := of_one 0x24 rfl (fun _ _ => rfl) rfl
theorem dec_H : Statement .dec_H := of_one 0x25 rfl (fun _ _ => rfl) rfl
theorem ld_H_d8 (n : Byte) : Statement (.ld_H_d8 n) := of_two 0x26 n rfl (fun _ => rfl) rfl
theorem daa : Statement .daa := of_one 0x27 rfl (fun _ _ => rfl) rfl
theorem jr_Z_e8 (n : Byte) : Statement (.jr_Z_e8 n) := of_two 0x28 n rfl (fun _ => rfl) rfl
theorem add_HL_HL : Statement .add_HL_HL := of_one 0x29 rfl (fun _ _ => rfl) rfl
theorem ld_A_atHLinc : Statement .ld_A_atHLinc := of_one 0x2A rfl (fun _ _ => rfl) rfl
theorem dec_HL : Statement .dec_HL := of_one 0x2B rfl (fun _ _ => rfl) rfl
theorem inc_L : Statement .inc_L := of_one 0x2C rfl (fun _ _ => rfl) rfl
theorem dec_L : Statement .dec_L := of_one 0x2D rfl (fun _ _ => rfl) rfl
theorem ld_L_d8 (n : Byte) : Statement (.ld_L_d8 n) := of_two 0x2E n rfl (fun _ => rfl) rfl
theorem cpl : Statement .cpl := of_one 0x2F rfl (fun _ _ => rfl) rfl
theorem jr_NC_e8 (n : Byte) : Statement (.jr_NC_e8 n) := of_two 0x30 n rfl (fun _ => rfl) rfl
theorem ld_SP_d16 (w : Word) : Statement (.ld_SP_d16 w) := of_three 0x31 w rfl (fun _ _ => rfl) rfl
theorem ld_atHLdec_A : Statement .ld_atHLdec_A := of_one 0x32 rfl (fun _ _ => rfl) rfl
theorem inc_SP : Statement .inc_SP := of_one 0x33 rfl (fun _ _ => rfl) rfl
theorem inc_atHL : Statement .inc_atHL := of_one 0x34 rfl (fun _ _ => rfl) rfl
theorem dec_atHL : Statement .dec_atHL := of_one 0x35 rfl (fun _ _ => rfl) rfl
theorem ld_atHL_d8 (n : Byte) : Statement (.ld_atHL_d8 n) := of_two 0x36 n rfl (fun _ => rfl) rfl
theorem scf : Statement .scf := of_one 0x37 rfl (fun _ _ => rfl) rfl
theorem jr_C_e8 (n : Byte) : Statement (.jr_C_e8 n) := of_two 0x38 n rfl (fun _ => rfl) rfl
theorem add_HL_SP : Statement .add_HL_SP := of_one 0x39 rfl (fun _ _ => rfl) rfl
theorem ld_A_atHLdec : Statement .ld_A_atHLdec := of_one 0x3A rfl (fun _ _ => rfl) rfl
theorem dec_SP : Statement .dec_SP := of_one 0x3B rfl (fun _ _ => rfl) rfl
theorem inc_A : Statement .inc_A := of_one 0x3C rfl (fun _ _ => rfl) rfl
theorem dec_A : Statement .dec_A := of_one 0x3D rfl (fun _ _ => rfl) rfl
theorem ld_A_d8 (n : Byte) : Statement (.ld_A_d8 n) := of_two 0x3E n rfl (fun _ => rfl) rfl
theorem ccf : Statement .ccf := of_one 0x3F rfl (fun _ _ => rfl) rfl
theorem ld_B_B : Statement .ld_B_B := of_one 0x40 rfl (fun _ _ => rfl) rfl
theorem ld_B_C : Statement .ld_B_C := of_one 0x41 rfl (fun _ _ => rfl) rfl
theorem ld_B_D : Statement .ld_B_D := of_one 0x42 rfl (fun _ _ => rfl) rfl
theorem ld_B_E : Statement .ld_B_E := of_one 0x43 rfl (fun _ _ => rfl) rfl
theorem ld_B_H : Statement .ld_B_H := of_one 0x44 rfl (fun _ _ => rfl) rfl
theorem ld_B_L : Statement .ld_B_L := of_one 0x45 rfl (fun _ _ => rfl) rfl
theorem ld_B_atHL : Statement .ld_B_atHL := of_one 0x46 rfl (fun _ _ => rfl) rfl
theorem ld_B_A : Statement .ld_B_A := of_one 0x47 rfl (fun _ _ => rfl) rfl
theorem ld_C_B : Statement .ld_C_B := of_one 0x48 rfl (fun _ _ => rfl) rfl
theorem ld_C_C : Statement .ld_C_C := of_one 0x49 rfl (fun _ _ => rfl) rfl
theorem ld_C_D : Statement .ld_C_D := of_one 0x4A rfl (fun _ _ => rfl) rfl
theorem ld_C_E : Statement .ld_C_E := of_one 0x4B rfl (fun _ _ => rfl) rfl
theorem ld_C_H : Statement .ld_C_H := of_one 0x4C rfl (fun _ _ => rfl) rfl
theorem ld_C_L : Statement .ld_C_L := of_one 0x4D rfl (fun _ _ => rfl) rfl
theorem ld_C_atHL : Statement .ld_C_atHL := of_one 0x4E rfl (fun _ _ => rfl) rfl
theorem ld_C_A : Statement .ld_C_A := of_one 0x4F rfl (fun _ _ => rfl) rfl
theorem ld_D_B : Statement .ld_D_B := of_one 0x50 rfl (fun _ _ => rfl) rfl
theorem ld_D_C : Statement .ld_D_C := of_one 0x51 rfl (fun _ _ => rfl) rfl
theorem ld_D_D : Statement .ld_D_D := of_one 0x52 rfl (fun _ _ => rfl) rfl
theorem ld_D_E : Statement .ld_D_E := of_one 0x53 rfl (fun _ _ => rfl) rfl
theorem ld_D_H : Statement .ld_D_H := of_one 0x54 rfl (fun _ _ => rfl) rfl
theorem ld_D_L : Statement .ld_D_L := of_one 0x55 rfl (fun _ _ => rfl) rfl
theorem ld_D_atHL : Statement .ld_D_atHL := of_one 0x56 rfl (fun _ _ => rfl) rfl
theorem ld_D_A : Statement .ld_D_A := of_one 0x57 rfl (fun _ _ => rfl) rfl
theorem ld_E_B : Statement .ld_E_B := of_one 0x58 rfl (fun _ _ => rfl) rfl
theorem ld_E_C : Statement .ld_E_C := of_one 0x59 rfl (fun _ _ => rfl) rfl
theorem ld_E_D : Statement .ld_E_D := of_one 0x5A rfl (fun _ _ => rfl) rfl
theorem ld_E_E : Statement .ld_E_E := of_one 0x5B rfl (fun _ _ => rfl) rfl
theorem ld_E_H : Statement .ld_E_H := of_one 0x5C rfl (fun _ _ => rfl) rfl
theorem ld_E_L : Statement .ld_E_L := of_one 0x5D rfl (fun _ _ => rfl) rfl
theorem ld_E_atHL : Statement .ld_E_atHL := of_one 0x5E rfl (fun _ _ => rfl) rfl
theorem ld_E_A : Statement .ld_E_A := of_one 0x5F rfl (fun _ _ => rfl) rfl
theorem ld_H_B : Statement .ld_H_B := of_one 0x60 rfl (fun _ _ => rfl) rfl
theorem ld_H_C : Statement .ld_H_C := of_one 0x61 rfl (fun _ _ => rfl) rfl
theorem ld_H_D : Statement .ld_H_D := of_one 0x62 rfl (fun _ _ => rfl) rfl
theorem ld_H_E : Statement .ld_H_E := of_one 0x63 rfl (fun _ _ => rfl) rfl
theorem ld_H_H : Statement .ld_H_H := of_one 0x64 rfl (fun _ _ => rfl) rfl
theorem ld_H_L : Statement .ld_H_L := of_one 0x65 rfl (fun _ _ => rfl) rfl
theorem ld_H_atHL : Statement .ld_H_atHL := of_one 0x66 rfl (fun _ _ => rfl) rfl
theorem ld_H_A : Statement .ld_H_A := of_one 0x67 rfl (fun _ _ => rfl) rfl
theorem ld_L_B : Statement .ld_L_B := of_one 0x68 rfl (fun _ _ => rfl) rfl
theorem ld_L_C : Statement .ld_L_C := of_one 0x69 rfl (fun _ _ => rfl) rfl
theorem ld_L_D : Statement .ld_L_D := of_one 0x6A rfl (fun _ _ => rfl) rfl
theorem ld_L_E : Statement .ld_L_E := of_one 0x6B rfl (fun _ _ => rfl) rfl
theorem ld_L_H : Statement .ld_L_H := of_one 0x6C rfl (fun _ _ => rfl) rfl
theorem ld_L_L : Statement .ld_L_L := of_one 0x6D rfl (fun _ _ => rfl) rfl
theorem ld_L_atHL : Statement .ld_L_atHL := of_one 0x6E rfl (fun _ _ => rfl) rfl
theorem ld_L_A : Statement .ld_L_A := of_one 0x6F rfl (fun _ _ => rfl) rfl
theorem ld_atHL_B : Statement .ld_atHL_B := of_one 0x70 rfl (fun _ _ => rfl) rfl
theorem ld_atHL_C : Statement .ld_atHL_C := of_one 0x71 rfl (fun _ _ => rfl) rfl
theorem ld_atHL_D : Statement .ld_atHL_D := of_one 0x72 rfl (fun _ _ => rfl) rfl
theorem ld_atHL_E : Statement .ld_atHL_E := of_one 0x73 rfl (fun _ _ => rfl) rfl
theorem ld_atHL_H : Statement .ld_atHL_H := of_one 0x74 rfl (fun _ _ => rfl) rfl
theorem ld_atHL_L : Statement .ld_atHL_L := of_one 0x75 rfl (fun _ _ => rfl) rfl
theorem halt : Statement .halt := of_one 0x76 rfl (fun _ _ => rfl) rfl
theorem ld_atHL_A : Statement .ld_atHL_A := of_one 0x77 rfl (fun _ _ => rfl) rfl
theorem ld_A_B : Statement .ld_A_B := of_one 0x78 rfl (fun _ _ => rfl) rfl
theorem ld_A_C : Statement .ld_A_C := of_one 0x79 rfl (fun _ _ => rfl) rfl
theorem ld_A_D : Statement .ld_A_D := of_one 0x7A rfl (fun _ _ => rfl) rfl
theorem ld_A_E : Statement .ld_A_E := of_one 0x7B rfl (fun _ _ => rfl) rfl
theorem ld_A_H : Statement .ld_A_H := of_one 0x7C rfl (fun _ _ => rfl) rfl
theorem ld_A_L : Statement .ld_A_L := of_one 0x7D rfl (fun _ _ => rfl) rfl
theorem ld_A_atHL : Statement .ld_A_atHL := of_one 0x7E rfl (fun _ _ => rfl) rfl
theorem ld_A_A : Statement .ld_A_A := of_one 0x7F rfl (fun _ _ => rfl) rfl
theorem add_A_B : Statement .add_A_B := of_one 0x80 rfl (fun _ _ => rfl) rfl
theorem add_A_C : Statement .add_A_C := of_one 0x81 rfl (fun _ _ => rfl) rfl
theorem add_A_D : Statement .add_A_D := of_one 0x82 rfl (fun _ _ => rfl) rfl
theorem add_A_E : Statement .add_A_E := of_one 0x83 rfl (fun _ _ => rfl) rfl
theorem add_A_H : Statement .add_A_H := of_one 0x84 rfl (fun _ _ => rfl) rfl
theorem add_A_L : Statement .add_A_L := of_one 0x85 rfl (fun _ _ => rfl) rfl
theorem add_A_atHL : Statement .add_A_atHL := of_one 0x86 rfl (fun _ _ => rfl) rfl
theorem add_A_A : Statement .add_A_A := of_one 0x87 rfl (fun _ _ => rfl) rfl
theorem adc_A_B : Statement .adc_A_B := of_one 0x88 rfl (fun _ _ => rfl) rfl
theorem adc_A_C : Statement .adc_A_C := of_one 0x89 rfl (fun _ _ => rfl) rfl
theorem adc_A_D : Statement .adc_A_D := of_one 0x8A rfl (fun _ _ => rfl) rfl
theorem adc_A_E : Statement .adc_A_E := of_one 0x8B rfl (fun _ _ => rfl) rfl
theorem adc_A_H : Statement .adc_A_H := of_one 0x8C rfl (fun _ _ => rfl) rfl
theorem adc_A_L : Statement .adc_A_L := of_one 0x8D rfl (fun _ _ => rfl) rfl
theorem adc_A_atHL : Statement .adc_A_atHL := of_one 0x8E rfl (fun _ _ => rfl) rfl
theorem adc_A_A : Statement .adc_A_A := of_one 0x8F rfl (fun _ _ => rfl) rfl
theorem sub_B : Statement .sub_B := of_one 0x90 rfl (fun _ _ => rfl) rfl
theorem sub_C : Statement .sub_C := of_one 0x91 rfl (fun _ _ => rfl) rfl
theorem sub_D : Statement .sub_D := of_one 0x92 rfl (fun _ _ => rfl) rfl
theorem sub_E : Statement .sub_E := of_one 0x93 rfl (fun _ _ => rfl) rfl
theorem sub_H : Statement .sub_H := of_one 0x94 rfl (fun _ _ => rfl) rfl
theorem sub_L : Statement .sub_L := of_one 0x95 rfl (fun _ _ => rfl) rfl
theorem sub_atHL : Statement .sub_atHL := of_one 0x96 rfl (fun _ _ => rfl) rfl
theorem sub_A : Statement .sub_A := of_one 0x97 rfl (fun _ _ => rfl) rfl
theorem sbc_A_B : Statement .sbc_A_B := of_one 0x98 rfl (fun _ _ => rfl) rfl
theorem sbc_A_C : Statement .sbc_A_C := of_one 0x99 rfl (fun _ _ => rfl) rfl
theorem sbc_A_D : Statement .sbc_A_D := of_one 0x9A rfl (fun _ _ => rfl) rfl
theorem sbc_A_E : Statement .sbc_A_E := of_one 0x9B rfl (fun _ _ => rfl) rfl
theorem sbc_A_H : Statement .sbc_A_H := of_one 0x9C rfl (fun _ _ => rfl) rfl
theorem sbc_A_L : Statement .sbc_A_L := of_one 0x9D rfl (fun _ _ => rfl) rfl
theorem sbc_A_atHL : Statement .sbc_A_atHL := of_one 0x9E rfl (fun _ _ => rfl) rfl
theorem sbc_A_A : Statement .sbc_A_A := of_one 0x9F rfl (fun _ _ => rfl) rfl
theorem and_B : Statement .and_B := of_one 0xA0 rfl (fun _ _ => rfl) rfl
theorem and_C : Statement .and_C := of_one 0xA1 rfl (fun _ _ => rfl) rfl
theorem and_D : Statement .and_D := of_one 0xA2 rfl (fun _ _ => rfl) rfl
theorem and_E : Statement .and_E := of_one 0xA3 rfl (fun _ _ => rfl) rfl
theorem and_H : Statement .and_H := of_one 0xA4 rfl (fun _ _ => rfl) rfl
theorem and_L : Statement .and_L := of_one 0xA5 rfl (fun _ _ => rfl) rfl
theorem and_atHL : Statement .and_atHL := of_one 0xA6 rfl (fun _ _ => rfl) rfl
theorem and_A : Statement .and_A := of_one 0xA7 rfl (fun _ _ => rfl) rfl
theorem xor_B : Statement .xor_B := of_one 0xA8 rfl (fun _ _ => rfl) rfl
theorem xor_C : Statement .xor_C := of_one 0xA9 rfl (fun _ _ => rfl) rfl
theorem xor_D : Statement .xor_D := of_one 0xAA rfl (fun _ _ => rfl) rfl
theorem xor_E : Statement .xor_E := of_one 0xAB rfl (fun _ _ => rfl) rfl
theorem xor_H : Statement .xor_H := of_one 0xAC rfl (fun _ _ => rfl) rfl
theorem xor_L : Statement .xor_L := of_one 0xAD rfl (fun _ _ => rfl) rfl
theorem xor_atHL : Statement .xor_atHL := of_one 0xAE rfl (fun _ _ => rfl) rfl
theorem xor_A : Statement .xor_A := of_one 0xAF rfl (fun _ _ => rfl) rfl
theorem or_B : Statement .or_B := of_one 0xB0 rfl (fun _ _ => rfl) rfl
theorem or_C : Statement .or_C := of_one 0xB1 rfl (fun _ _ => rfl) rfl
theorem or_D : Statement .or_D := of_one 0xB2 rfl (fun _ _ => rfl) rfl
theorem or_E : Statement .or_E := of_one 0xB3 rfl (fun _ _ => rfl) rfl
theorem or_H : Statement .or_H := of_one 0xB4 rfl (fun _ _ => rfl) rfl
theorem or_L : Statement .or_L := of_one 0xB5 rfl (fun _ _ => rfl) rfl
theorem or_atHL : Statement .or_atHL := of_one 0xB6 rfl (fun _ _ => rfl) rfl
theorem or_A : Statement .or_A := of_one 0xB7 rfl (fun _ _ => rfl) rfl
theorem cp_B : Statement .cp_B := of_one 0xB8 rfl (fun _ _ => rfl) rfl
theorem cp_C : Statement .cp_C := of_one 0xB9 rfl (fun _ _ => rfl) rfl
theorem cp_D : Statement .cp_D := of_one 0xBA rfl (fun _ _ => rfl) rfl
theorem cp_E : Statement .cp_E := of_one 0xBB rfl (fun _ _ => rfl) rfl
theorem cp_H : Statement .cp_H := of_one 0xBC rfl (fun _ _ => rfl) rfl
theorem cp_L : Statement .cp_L := of_one 0xBD rfl (fun _ _ => rfl) rfl
theorem cp_atHL : Statement .cp_atHL := of_one 0xBE rfl (fun _ _ => rfl) rfl
theorem cp_A : Statement .cp_A := of_one 0xBF rfl (fun _ _ => rfl) rfl
theorem ret_NZ : Statement .ret_NZ := of_one 0xC0 rfl (fun _ _ => rfl) rfl
theorem pop_BC : Statement .pop_BC := of_one 0xC1 rfl (fun _ _ => rfl) rfl
theorem jp_NZ_a16 (w : Word) : Statement (.jp_NZ_a16 w) := of_three 0xC2 w rfl (fun _ _ => rfl) rfl
theorem jp_a16 (w : Word) : Statement (.jp_a16 w) := of_three 0xC3 w rfl (fun _ _ => rfl) rfl
theorem call_NZ_a16 (w : Word) : Statement (.call_NZ_a16 w) := of_three 0xC4 w rfl (fun _ _ => rfl) rfl
theorem push_BC : Statement .push_BC := of_one 0xC5 rfl (fun _ _ => rfl) rfl
theorem add_A_d8 (n : Byte) : Statement (.add_A_d8 n) := of_two 0xC6 n rfl (fun _ => rfl) rfl
theorem rst_00H : Statement .rst_00H := of_one 0xC7 rfl (fun _ _ => rfl) rfl
theorem ret_Z : Statement .ret_Z := of_one 0xC8 rfl (fun _ _ => rfl) rfl
theorem ret : Statement .ret := of_one 0xC9 rfl (fun _ _ => rfl) rfl
theorem jp_Z_a16 (w : Word) : Statement (.jp_Z_a16 w) := of_three 0xCA w rfl (fun _ _ => rfl) rfl
theorem call_Z_a16 (w : Word) : Statement (.call_Z_a16 w) := of_three 0xCC w rfl (fun _ _ => rfl) rfl
theorem call_a16 (w : Word) : Statement (.call_a16 w) := of_three 0xCD w rfl (fun _ _ => rfl) rfl
theorem adc_A_d8 (n : Byte) : Statement (.adc_A_d8 n) := of_two 0xCE n rfl (fun _ => rfl) rfl
theorem rst_08H : Statement .rst_08H := of_one 0xCF rfl (fun _ _ => rfl) rfl
theorem ret_NC : Statement .ret_NC := of_one 0xD0 rfl (fun _ _ => rfl) rfl
theorem pop_DE : Statement .pop_DE := of_one 0xD1 rfl (fun _ _ => rfl) rfl
theorem jp_NC_a16 (w : Word) : Statement (.jp_NC_a16 w) := of_three 0xD2 w rfl (fun _ _ => rfl) rfl
theorem illegal_D3 : Statement .illegal_D3 := of_one 0xD3 rfl (fun _ _ => rfl) rfl
theorem call_NC_a16 (w : Word) : Statement (.call_NC_a16 w) := of_three 0xD4 w rfl (fun _ _ => rfl) rfl
theorem push_DE : Statement .push_DE := of_one 0xD5 rfl (fun _ _ => rfl) rfl
theorem sub_d8 (n : Byte) : Statement (.sub_d8 n) := of_two 0xD6 n rfl (fun _ => rfl) rfl
theorem rst_10H : Statement .rst_10H := of_one 0xD7 rfl (fun _ _ => rfl) rfl
theorem ret_C : Statement .ret_C := of_one 0xD8 rfl (fun _ _ => rfl) rfl
theorem reti : Statement .reti := of_one 0xD9 rfl (fun _ _ => rfl) rfl
theorem jp_C_a16 (w : Word) : Statement (.jp_C_a16 w) := of_three 0xDA w rfl (fun _ _ => rfl) rfl
theorem illegal_DB : Statement .illegal_DB := of_one 0xDB rfl (fun _ _ => rfl) rfl
theorem call_C_a16 (w : Word) : Statement (.call_C_a16 w) := of_three 0xDC w rfl (fun _ _ => rfl) rfl
theorem illegal_DD : Statement .illegal_DD := of_one 0xDD rfl (fun _ _ => rfl) rfl
theorem sbc_A_d8 (n : Byte) : Statement (.sbc_A_d8 n) := of_two 0xDE n rfl (fun _ => rfl) rfl
theorem rst_18H : Statement .rst_18H := of_one 0xDF rfl (fun _ _ => rfl) rfl
theorem ldh_atA8_A (n : Byte) : Statement (.ldh_atA8_A n) := of_two 0xE0 n rfl (fun _ => rfl) rfl
theorem pop_HL : Statement .pop_HL := of_one 0xE1 rfl (fun _ _ => rfl) rfl
theorem ld_atC_A : Statement .ld_atC_A := of_one 0xE2 rfl (fun _ _ => rfl) rfl
theorem illegal_E3 : Statement .illegal_E3 := of_one 0xE3 rfl (fun _ _ => rfl) rfl
theorem illegal_E4 : Statement .illegal_E4 := of_one 0xE4 rfl (fun _ _ => rfl) rfl
theorem push_HL : Statement .push_HL := of_one 0xE5 rfl (fun _ _ => rfl) rfl
theorem and_d8 (n : Byte) : Statement (.and_d8 n) := of_two 0xE6 n rfl (fun _ => rfl) rfl
theorem rst_20H : Statement .rst_20H := of_one 0xE7 rfl (fun _ _ => rfl) rfl
theorem add_SP_e8 (n : Byte) : Statement (.add_SP_e8 n) := of_two 0xE8 n rfl (fun _ => rfl) rfl
theorem jp_HL : Statement .jp_HL := of_one 0xE9 rfl (fun _ _ => rfl) rfl
theorem ld_atA16_A (w : Word) : Statement (.ld_atA16_A w) := of_three 0xEA w rfl (fun _ _ => rfl) rfl
theorem illegal_EB : Statement .illegal_EB := of_one 0xEB rfl (fun _ _ => rfl) rfl
theorem illegal_EC : Statement .illegal_EC := of_one 0xEC rfl (fun _ _ => rfl) rfl
theorem illegal_ED : Statement .illegal_ED := of_one 0xED rfl (fun _ _ => rfl) rfl
theorem xor_d8 (n : Byte) : Statement (.xor_d8 n) := of_two 0xEE n rfl (fun _ => rfl) rfl
theorem rst_28H : Statement .rst_28H := of_one 0xEF rfl (fun _ _ => rfl) rfl
theorem ldh_A_atA8 (n : Byte) : Statement (.ldh_A_atA8 n) := of_two 0xF0 n rfl (fun _ => rfl) rfl
theorem pop_AF : Statement .pop_AF := of_one 0xF1 rfl (fun _ _ => rfl) rfl
theorem ld_A_atC : Statement .ld_A_atC := of_one 0xF2 rfl (fun _ _ => rfl) rfl
theorem di : Statement .di := of_one 0xF3 rfl (fun _ _ => rfl) rfl
theorem illegal_F4 : Statement .illegal_F4 := of_one 0xF4 rfl (fun _ _ => rfl) rfl
theorem push_AF : Statement .push_AF := of_one 0xF5 rfl (fun _ _ => rfl) rfl
theorem or_d8 (n : Byte) : Statement (.or_d8 n) := of_two 0xF6 n rfl (fun _ => rfl) rfl
theorem rst_30H : Statement .rst_30H := of_one 0xF7 rfl (fun _ _ => rfl) rfl
theorem ld_HL_SPe8 (n : Byte) : Statement (.ld_HL_SPe8 n) := of_two 0xF8 n rfl (fun _ => rfl) rfl
theorem ld_SP_HL : Statement .ld_SP_HL := of_one 0xF9 rfl (fun _ _ => rfl) rfl
theorem ld_A_atA16 (w : Word) : Statement (.ld_A_atA16 w) := of_three 0xFA w rfl (fun _ _ => rfl) rfl
theorem ei : Statement .ei := of_one 0xFB rfl (fun _ _ => rfl) rfl
theorem illegal_FC : Statement .illegal_FC := of_one 0xFC rfl (fun _ _ => rfl) rfl
theorem illegal_FD : Statement .illegal_FD := of_one 0xFD rfl (fun _ _ => rfl) rfl
theorem cp_d8 (n : Byte) : Statement (.cp_d8 n) := of_two 0xFE n rfl (fun _ => rfl) rfl
theorem rst_38H : Statement .rst_38H := of_one 0xFF rfl (fun _ _ => rfl) rfl
theorem rlc_B : Statement .rlc_B := of_two 0xCB 0x00 rfl (fun _ => rfl) rfl
theorem rlc_C : Statement .rlc_C := of_two 0xCB 0x01 rfl (fun _ => rfl) rfl
theorem rlc_D : Statement .rlc_D := of_two 0xCB 0x02 rfl (fun _ => rfl) rfl
theorem rlc_E : Statement .rlc_E := of_two 0xCB 0x03 rfl (fun _ => rfl) rfl
theorem rlc_H : Statement .rlc_H := of_two 0xCB 0x04 rfl (fun _ => rfl) rfl
theorem rlc_L : Statement .rlc_L := of_two 0xCB 0x05 rfl (fun _ => rfl) rfl
theorem rlc_atHL : Statement .rlc_atHL := of_two 0xCB 0x06 rfl (fun _ => rfl) rfl
theorem rlc_A : Statement .rlc_A := of_two 0xCB 0x07 rfl (fun _ => rfl) rfl
theorem rrc_B : Statement .rrc_B := of_two 0xCB 0x08 rfl (fun _ => rfl) rfl
theorem rrc_C : Statement .rrc_C := of_two 0xCB 0x09 rfl (fun _ => rfl) rfl
theorem rrc_D : Statement .rrc_D := of_two 0xCB 0x0A rfl (fun _ => rfl) rfl
theorem rrc_E : Statement .rrc_E := of_two 0xCB 0x0B rfl (fun _ => rfl) rfl
theorem rrc_H : Statement .rrc_H := of_two 0xCB 0x0C rfl (fun _ => rfl) rfl
theorem rrc_L : Statement .rrc_L := of_two 0xCB 0x0D rfl (fun _ => rfl) rfl
theorem rrc_atHL : Statement .rrc_atHL := of_two 0xCB 0x0E rfl (fun _ => rfl) rfl
theorem rrc_A : Statement .rrc_A := of_two 0xCB 0x0F rfl (fun _ => rfl) rfl
theorem rl_B : Statement .rl_B := of_two 0xCB 0x10 rfl (fun _ => rfl) rfl
theorem rl_C : Statement .rl_C := of_two 0xCB 0x11 rfl (fun _ => rfl) rfl
theorem rl_D : Statement .rl_D := of_two 0xCB 0x12 rfl (fun _ => rfl) rfl
theorem rl_E : Statement .rl_E := of_two 0xCB 0x13 rfl (fun _ => rfl) rfl
theorem rl_H : Statement .rl_H := of_two 0xCB 0x14 rfl (fun _ => rfl) rfl
theorem rl_L : Statement .rl_L := of_two 0xCB 0x15 rfl (fun _ => rfl) rfl
theorem rl_atHL : Statement .rl_atHL := of_two 0xCB 0x16 rfl (fun _ => rfl) rfl
theorem rl_A : Statement .rl_A := of_two 0xCB 0x17 rfl (fun _ => rfl) rfl
theorem rr_B : Statement .rr_B := of_two 0xCB 0x18 rfl (fun _ => rfl) rfl
theorem rr_C : Statement .rr_C := of_two 0xCB 0x19 rfl (fun _ => rfl) rfl
theorem rr_D : Statement .rr_D := of_two 0xCB 0x1A rfl (fun _ => rfl) rfl
theorem rr_E : Statement .rr_E := of_two 0xCB 0x1B rfl (fun _ => rfl) rfl
theorem rr_H : Statement .rr_H := of_two 0xCB 0x1C rfl (fun _ => rfl) rfl
theorem rr_L : Statement .rr_L := of_two 0xCB 0x1D rfl (fun _ => rfl) rfl
theorem rr_atHL : Statement .rr_atHL := of_two 0xCB 0x1E rfl (fun _ => rfl) rfl
theorem rr_A : Statement .rr_A := of_two 0xCB 0x1F rfl (fun _ => rfl) rfl
theorem sla_B : Statement .sla_B := of_two 0xCB 0x20 rfl (fun _ => rfl) rfl
theorem sla_C : Statement .sla_C := of_two 0xCB 0x21 rfl (fun _ => rfl) rfl
theorem sla_D : Statement .sla_D := of_two 0xCB 0x22 rfl (fun _ => rfl) rfl
theorem sla_E : Statement .sla_E := of_two 0xCB 0x23 rfl (fun _ => rfl) rfl
theorem sla_H : Statement .sla_H := of_two 0xCB 0x24 rfl (fun _ => rfl) rfl
theorem sla_L : Statement .sla_L := of_two 0xCB 0x25 rfl (fun _ => rfl) rfl
theorem sla_atHL : Statement .sla_atHL := of_two 0xCB 0x26 rfl (fun _ => rfl) rfl
theorem sla_A : Statement .sla_A := of_two 0xCB 0x27 rfl (fun _ => rfl) rfl
theorem sra_B : Statement .sra_B := of_two 0xCB 0x28 rfl (fun _ => rfl) rfl
theorem sra_C : Statement .sra_C := of_two 0xCB 0x29 rfl (fun _ => rfl) rfl
theorem sra_D : Statement .sra_D := of_two 0xCB 0x2A rfl (fun _ => rfl) rfl
theorem sra_E : Statement .sra_E := of_two 0xCB 0x2B rfl (fun _ => rfl) rfl
theorem sra_H : Statement .sra_H := of_two 0xCB 0x2C rfl (fun _ => rfl) rfl
theorem sra_L : Statement .sra_L := of_two 0xCB 0x2D rfl (fun _ => rfl) rfl
theorem sra_atHL : Statement .sra_atHL := of_two 0xCB 0x2E rfl (fun _ => rfl) rfl
theorem sra_A : Statement .sra_A := of_two 0xCB 0x2F rfl (fun _ => rfl) rfl
theorem swap_B : Statement .swap_B := of_two 0xCB 0x30 rfl (fun _ => rfl) rfl
theorem swap_C : Statement .swap_C := of_two 0xCB 0x31 rfl (fun _ => rfl) rfl
theorem swap_D : Statement .swap_D := of_two 0xCB 0x32 rfl (fun _ => rfl) rfl
theorem swap_E : Statement .swap_E := of_two 0xCB 0x33 rfl (fun _ => rfl) rfl
theorem swap_H : Statement .swap_H := of_two 0xCB 0x34 rfl (fun _ => rfl) rfl
theorem swap_L : Statement .swap_L := of_two 0xCB 0x35 rfl (fun _ => rfl) rfl
theorem swap_atHL : Statement .swap_atHL := of_two 0xCB 0x36 rfl (fun _ => rfl) rfl
theorem swap_A : Statement .swap_A := of_two 0xCB 0x37 rfl (fun _ => rfl) rfl
theorem srl_B : Statement .srl_B := of_two 0xCB 0x38 rfl (fun _ => rfl) rfl
theorem srl_C : Statement .srl_C := of_two 0xCB 0x39 rfl (fun _ => rfl) rfl
theorem srl_D : Statement .srl_D := of_two 0xCB 0x3A rfl (fun _ => rfl) rfl
theorem srl_E : Statement .srl_E := of_two 0xCB 0x3B rfl (fun _ => rfl) rfl
theorem srl_H : Statement .srl_H := of_two 0xCB 0x3C rfl (fun _ => rfl) rfl
theorem srl_L : Statement .srl_L := of_two 0xCB 0x3D rfl (fun _ => rfl) rfl
theorem srl_atHL : Statement .srl_atHL := of_two 0xCB 0x3E rfl (fun _ => rfl) rfl
theorem srl_A : Statement .srl_A := of_two 0xCB 0x3F rfl (fun _ => rfl) rfl
theorem bit_0_B : Statement .bit_0_B := of_two 0xCB 0x40 rfl (fun _ => rfl) rfl
theorem bit_0_C : Statement .bit_0_C := of_two 0xCB 0x41 rfl (fun _ => rfl) rfl
theorem bit_0_D : Statement .bit_0_D := of_two 0xCB 0x42 rfl (fun _ => rfl) rfl
theorem bit_0_E : Statement .bit_0_E := of_two 0xCB 0x43 rfl (fun _ => rfl) rfl
theorem bit_0_H : Statement .bit_0_H := of_two 0xCB 0x44 rfl (fun _ => rfl) rfl
theorem bit_0_L : Statement .bit_0_L := of_two 0xCB 0x45 rfl (fun _ => rfl) rfl
theorem bit_0_atHL : Statement .bit_0_atHL := of_two 0xCB 0x46 rfl (fun _ => rfl) rfl
theorem bit_0_A : Statement .bit_0_A := of_two 0xCB 0x47 rfl (fun _ => rfl) rfl
theorem bit_1_B : Statement .bit_1_B := of_two 0xCB 0x48 rfl (fun _ => rfl) rfl
theorem bit_1_C : Statement .bit_1_C := of_two 0xCB 0x49 rfl (fun _ => rfl) rfl
theorem bit_1_D : Statement .bit_1_D := of_two 0xCB 0x4A rfl (fun _ => rfl) rfl
theorem bit_1_E : Statement .bit_1_E := of_two 0xCB 0x4B rfl (fun _ => rfl) rfl
theorem bit_1_H : Statement .bit_1_H := of_two 0xCB 0x4C rfl (fun _ => rfl) rfl
theorem bit_1_L : Statement .bit_1_L := of_two 0xCB 0x4D rfl (fun _ => rfl) rfl
theorem bit_1_atHL : Statement .bit_1_atHL := of_two 0xCB 0x4E rfl (fun _ => rfl) rfl
theorem bit_1_A : Statement .bit_1_A := of_two 0xCB 0x4F rfl (fun _ => rfl) rfl
theorem bit_2_B : Statement .bit_2_B := of_two 0xCB 0x50 rfl (fun _ => rfl) rfl
theorem bit_2_C : Statement .bit_2_C := of_two 0xCB 0x51 rfl (fun _ => rfl) rfl
theorem bit_2_D : Statement .bit_2_D := of_two 0xCB 0x52 rfl (fun _ => rfl) rfl
theorem bit_2_E : Statement .bit_2_E := of_two 0xCB 0x53 rfl (fun _ => rfl) rfl
theorem bit_2_H : Statement .bit_2_H := of_two 0xCB 0x54 rfl (fun _ => rfl) rfl
theorem bit_2_L : Statement .bit_2_L := of_two 0xCB 0x55 rfl (fun _ => rfl) rfl
theorem bit_2_atHL : Statement .bit_2_atHL := of_two 0xCB 0x56 rfl (fun _ => rfl) rfl
theorem bit_2_A : Statement .bit_2_A := of_two 0xCB 0x57 rfl (fun _ => rfl) rfl
theorem bit_3_B : Statement .bit_3_B := of_two 0xCB 0x58 rfl (fun _ => rfl) rfl
theorem bit_3_C : Statement .bit_3_C := of_two 0xCB 0x59 rfl (fun _ => rfl) rfl
theorem bit_3_D : Statement .bit_3_D := of_two 0xCB 0x5A rfl (fun _ => rfl) rfl
theorem bit_3_E : Statement .bit_3_E := of_two 0xCB 0x5B rfl (fun _ => rfl) rfl
theorem bit_3_H : Statement .bit_3_H := of_two 0xCB 0x5C rfl (fun _ => rfl) rfl
theorem bit_3_L : Statement .bit_3_L := of_two 0xCB 0x5D rfl (fun _ => rfl) rfl
theorem bit_3_atHL : Statement .bit_3_atHL := of_two 0xCB 0x5E rfl (fun _ => rfl) rfl
theorem bit_3_A : Statement .bit_3_A := of_two 0xCB 0x5F rfl (fun _ => rfl) rfl
theorem bit_4_B : Statement .bit_4_B := of_two 0xCB 0x60 rfl (fun _ => rfl) rfl
theorem bit_4_C : Statement .bit_4_C := of_two 0xCB 0x61 rfl (fun _ => rfl) rfl
theorem bit_4_D : Statement .bit_4_D := of_two 0xCB 0x62 rfl (fun _ => rfl) rfl
theorem bit_4_E : Statement .bit_4_E := of_two 0xCB 0x63 rfl (fun _ => rfl) rfl
theorem bit_4_H : Statement .bit_4_H := of_two 0xCB 0x64 rfl (fun _ => rfl) rfl
theorem bit_4_L : Statement .bit_4_L := of_two 0xCB 0x65 rfl (fun _ => rfl) rfl
theorem bit_4_atHL : Statement .bit_4_atHL := of_two 0xCB 0x66 rfl (fun _ => rfl) rfl
theorem bit_4_A : Statement .bit_4_A := of_two 0xCB 0x67 rfl (fun _ => rfl) rfl
theorem bit_5_B : Statement .bit_5_B := of_two 0xCB 0x68 rfl (fun _ => rfl) rfl
theorem bit_5_C : Statement .bit_5_C := of_two 0xCB 0x69 rfl (fun _ => rfl) rfl
theorem bit_5_D : Statement .bit_5_D := of_two 0xCB 0x6A rfl (fun _ => rfl) rfl
theorem bit_5_E : Statement .bit_5_E := of_two 0xCB 0x6B rfl (fun _ => rfl) rfl
theorem bit_5_H : Statement .bit_5_H := of_two 0xCB 0x6C rfl (fun _ => rfl) rfl
theorem bit_5_L : Statement .bit_5_L := of_two 0xCB 0x6D rfl (fun _ => rfl) rfl
theorem bit_5_atHL : Statement .bit_5_atHL := of_two 0xCB 0x6E rfl (fun _ => rfl) rfl
theorem bit_5_A : Statement .bit_5_A := of_two 0xCB 0x6F rfl (fun _ => rfl) rfl
theorem bit_6_B : Statement .bit_6_B := of_two 0xCB 0x70 rfl (fun _ => rfl) rfl
theorem bit_6_C : Statement .bit_6_C := of_two 0xCB 0x71 rfl (fun _ => rfl) rfl
theorem bit_6_D : Statement .bit_6_D := of_two 0xCB 0x72 rfl (fun _ => rfl) rfl
theorem bit_6_E : Statement .bit_6_E := of_two 0xCB 0x73 rfl (fun _ => rfl) rfl
theorem bit_6_H : Statement .bit_6_H := of_two 0xCB 0x74 rfl (fun _ => rfl) rfl
theorem bit_6_L : Statement .bit_6_L := of_two 0xCB 0x75 rfl (fun _ => rfl) rfl
theorem bit_6_atHL : Statement .bit_6_atHL := of_two 0xCB 0x76 rfl (fun _ => rfl) rfl
theorem bit_6_A : Statement .bit_6_A := of_two 0xCB 0x77 rfl (fun _ => rfl) rfl
theorem bit_7_B : Statement .bit_7_B := of_two 0xCB 0x78 rfl (fun _ => rfl) rfl
theorem bit_7_C : Statement .bit_7_C := of_two 0xCB 0x79 rfl (fun _ => rfl) rfl
theorem bit_7_D : Statement .bit_7_D := of_two 0xCB 0x7A rfl (fun _ => rfl) rfl
theorem bit_7_E : Statement .bit_7_E := of_two 0xCB 0x7B rfl (fun _ => rfl) rfl
theorem bit_7_H : Statement .bit_7_H := of_two 0xCB 0x7C rfl (fun _ => rfl) rfl
theorem bit_7_L : Statement .bit_7_L := of_two 0xCB 0x7D rfl (fun _ => rfl) rfl
theorem bit_7_atHL : Statement .bit_7_atHL := of_two 0xCB 0x7E rfl (fun _ => rfl) rfl
theorem bit_7_A : Statement .bit_7_A := of_two 0xCB 0x7F rfl (fun _ => rfl) rfl
theorem res_0_B : Statement .res_0_B := of_two 0xCB 0x80 rfl (fun _ => rfl) rfl
theorem res_0_C : Statement .res_0_C := of_two 0xCB 0x81 rfl (fun _ => rfl) rfl
theorem res_0_D : Statement .res_0_D := of_two 0xCB 0x82 rfl (fun _ => rfl) rfl
theorem res_0_E : Statement .res_0_E := of_two 0xCB 0x83 rfl (fun _ => rfl) rfl
theorem res_0_H : Statement .res_0_H := of_two 0xCB 0x84 rfl (fun _ => rfl) rfl
theorem res_0_L : Statement .res_0_L := of_two 0xCB 0x85 rfl (fun _ => rfl) rfl
theorem res_0_atHL : Statement .res_0_atHL := of_two 0xCB 0x86 rfl (fun _ => rfl) rfl
theorem res_0_A : Statement .res_0_A := of_two 0xCB 0x87 rfl (fun _ => rfl) rfl
theorem res_1_B : Statement .res_1_B := of_two 0xCB 0x88 rfl (fun _ => rfl) rfl
theorem res_1_C : Statement .res_1_C := of_two 0xCB 0x89 rfl (fun _ => rfl) rfl
theorem res_1_D : Statement .res_1_D := of_two 0xCB 0x8A rfl (fun _ => rfl) rfl
theorem res_1_E : Statement .res_1_E := of_two 0xCB 0x8B rfl (fun _ => rfl) rfl
theorem res_1_H : Statement .res_1_H := of_two 0xCB 0x8C rfl (fun _ => rfl) rfl
theorem res_1_L : Statement .res_1_L := of_two 0xCB 0x8D rfl (fun _ => rfl) rfl
theorem res_1_atHL : Statement .res_1_atHL := of_two 0xCB 0x8E rfl (fun _ => rfl) rfl
theorem res_1_A : Statement .res_1_A := of_two 0xCB 0x8F rfl (fun _ => rfl) rfl
theorem res_2_B : Statement .res_2_B := of_two 0xCB 0x90 rfl (fun _ => rfl) rfl
theorem res_2_C : Statement .res_2_C := of_two 0xCB 0x91 rfl (fun _ => rfl) rfl
theorem res_2_D : Statement .res_2_D := of_two 0xCB 0x92 rfl (fun _ => rfl) rfl
theorem res_2_E : Statement .res_2_E := of_two 0xCB 0x93 rfl (fun _ => rfl) rfl
theorem res_2_H : Statement .res_2_H := of_two 0xCB 0x94 rfl (fun _ => rfl) rfl
theorem res_2_L : Statement .res_2_L := of_two 0xCB 0x95 rfl (fun _ => rfl) rfl
theorem res_2_atHL : Statement .res_2_atHL := of_two 0xCB 0x96 rfl (fun _ => rfl) rfl
theorem res_2_A : Statement .res_2_A := of_two 0xCB 0x97 rfl (fun _ => rfl) rfl
theorem res_3_B : Statement .res_3_B := of_two 0xCB 0x98 rfl (fun _ => rfl) rfl
theorem res_3_C : Statement .res_3_C := of_two 0xCB 0x99 rfl (fun _ => rfl) rfl
theorem res_3_D : Statement .res_3_D := of_two 0xCB 0x9A rfl (fun _ => rfl) rfl
theorem res_3_E : Statement .res_3_E := of_two 0xCB 0x9B rfl (fun _ => rfl) rfl
theorem res_3_H : Statement .res_3_H := of_two 0xCB 0x9C rfl (fun _ => rfl) rfl
theorem res_3_L : Statement .res_3_L := of_two 0xCB 0x9D rfl (fun _ => rfl) rfl
theorem res_3_atHL : Statement .res_3_atHL := of_two 0xCB 0x9E rfl (fun _ => rfl) rfl
theorem res_3_A : Statement .res_3_A := of_two 0xCB 0x9F rfl (fun _ => rfl) rfl
theorem res_4_B : Statement .res_4_B := of_two 0xCB 0xA0 rfl (fun _ => rfl) rfl
theorem res_4_C : Statement .res_4_C := of_two 0xCB 0xA1 rfl (fun _ => rfl) rfl
theorem res_4_D : Statement .res_4_D := of_two 0xCB 0xA2 rfl (fun _ => rfl) rfl
theorem res_4_E : Statement .res_4_E := of_two 0xCB 0xA3 rfl (fun _ => rfl) rfl
theorem res_4_H : Statement .res_4_H := of_two 0xCB 0xA4 rfl (fun _ => rfl) rfl
theorem res_4_L : Statement .res_4_L := of_two 0xCB 0xA5 rfl (fun _ => rfl) rfl
theorem res_4_atHL : Statement .res_4_atHL := of_two 0xCB 0xA6 rfl (fun _ => rfl) rfl
theorem res_4_A : Statement .res_4_A := of_two 0xCB 0xA7 rfl (fun _ => rfl) rfl
theorem res_5_B : Statement .res_5_B := of_two 0xCB 0xA8 rfl (fun _ => rfl) rfl
theorem res_5_C : Statement .res_5_C := of_two 0xCB 0xA9 rfl (fun _ => rfl) rfl
theorem res_5_D : Statement .res_5_D := of_two 0xCB 0xAA rfl (fun _ => rfl) rfl
theorem res_5_E : Statement .res_5_E := of_two 0xCB 0xAB rfl (fun _ => rfl) rfl
theorem res_5_H : Statement .res_5_H := of_two 0xCB 0xAC rfl (fun _ => rfl) rfl
theorem res_5_L : Statement .res_5_L := of_two 0xCB 0xAD rfl (fun _ => rfl) rfl
theorem res_5_atHL : Statement .res_5_atHL := of_two 0xCB 0xAE rfl (fun _ => rfl) rfl
theorem res_5_A : Statement .res_5_A := of_two 0xCB 0xAF rfl (fun _ => rfl) rfl
theorem res_6_B : Statement .res_6_B := of_two 0xCB 0xB0 rfl (fun _ => rfl) rfl
theorem res_6_C : Statement .res_6_C := of_two 0xCB 0xB1 rfl (fun _ => rfl) rfl
theorem res_6_D : Statement .res_6_D := of_two 0xCB 0xB2 rfl (fun _ => rfl) rfl
theorem res_6_E : Statement .res_6_E := of_two 0xCB 0xB3 rfl (fun _ => rfl) rfl
theorem res_6_H : Statement .res_6_H := of_two 0xCB 0xB4 rfl (fun _ => rfl) rfl
theorem res_6_L : Statement .res_6_L := of_two 0xCB 0xB5 rfl (fun _ => rfl) rfl
theorem res_6_atHL : Statement .res_6_atHL := of_two 0xCB 0xB6 rfl (fun _ => rfl) rfl
theorem res_6_A : Statement .res_6_A := of_two 0xCB 0xB7 rfl (fun _ => rfl) rfl
theorem res_7_B : Statement .res_7_B := of_two 0xCB 0xB8 rfl (fun _ => rfl) rfl
theorem res_7_C : Statement .res_7_C := of_two 0xCB 0xB9 rfl (fun _ => rfl) rfl
theorem res_7_D : Statement .res_7_D := of_two 0xCB 0xBA rfl (fun _ => rfl) rfl
theorem res_7_E : Statement .res_7_E := of_two 0xCB 0xBB rfl (fun _ => rfl) rfl
theorem res_7_H : Statement .res_7_H := of_two 0xCB 0xBC rfl (fun _ => rfl) rfl
theorem res_7_L : Statement .res_7_L := of_two 0xCB 0xBD rfl (fun _ => rfl) rfl
theorem res_7_atHL : Statement .res_7_atHL := of_two 0xCB 0xBE rfl (fun _ => rfl) rfl
theorem res_7_A : Statement .res_7_A := of_two 0xCB 0xBF rfl (fun _ => rfl) rfl
theorem set_0_B : Statement .set_0_B := of_two 0xCB 0xC0 rfl (fun _ => rfl) rfl
theorem set_0_C : Statement .set_0_C := of_two 0xCB 0xC1 rfl (fun _ => rfl) rfl
theorem set_0_D : Statement .set_0_D := of_two 0xCB 0xC2 rfl (fun _ => rfl) rfl
theorem set_0_E : Statement .set_0_E := of_two 0xCB 0xC3 rfl (fun _ => rfl) rfl
theorem set_0_H : Statement .set_0_H := of_two 0xCB 0xC4 rfl (fun _ => rfl) rfl
theorem set_0_L : Statement .set_0_L := of_two 0xCB 0xC5 rfl (fun _ => rfl) rfl
theorem set_0_atHL : Statement .set_0_atHL := of_two 0xCB 0xC6 rfl (fun _ => rfl) rfl
theorem set_0_A : Statement .set_0_A := of_two 0xCB 0xC7 rfl (fun _ => rfl) rfl
theorem set_1_B : Statement .set_1_B := of_two 0xCB 0xC8 rfl (fun _ => rfl) rfl
theorem set_1_C : Statement .set_1_C := of_two 0xCB 0xC9 rfl (fun _ => rfl) rfl
theorem set_1_D : Statement .set_1_D := of_two 0xCB 0xCA rfl (fun _ => rfl) rfl
theorem set_1_E : Statement .set_1_E := of_two 0xCB 0xCB rfl (fun _ => rfl) rfl
theorem set_1_H : Statement .set_1_H := of_two 0xCB 0xCC rfl (fun _ => rfl) rfl
theorem set_1_L : Statement .set_1_L := of_two 0xCB 0xCD rfl (fun _ => rfl) rfl
theorem set_1_atHL : Statement .set_1_atHL := of_two 0xCB 0xCE rfl (fun _ => rfl) rfl
theorem set_1_A : Statement .set_1_A := of_two 0xCB 0xCF rfl (fun _ => rfl) rfl
theorem set_2_B : Statement .set_2_B := of_two 0xCB 0xD0 rfl (fun _ => rfl) rfl
theorem set_2_C : Statement .set_2_C := of_two 0xCB 0xD1 rfl (fun _ => rfl) rfl
theorem set_2_D : Statement .set_2_D := of_two 0xCB 0xD2 rfl (fun _ => rfl) rfl
theorem set_2_E : Statement .set_2_E := of_two 0xCB 0xD3 rfl (fun _ => rfl) rfl
theorem set_2_H : Statement .set_2_H := of_two 0xCB 0xD4 rfl (fun _ => rfl) rfl
theorem set_2_L : Statement .set_2_L := of_two 0xCB 0xD5 rfl (fun _ => rfl) rfl
theorem set_2_atHL : Statement .set_2_atHL := of_two 0xCB 0xD6 rfl (fun _ => rfl) rfl
theorem set_2_A : Statement .set_2_A := of_two 0xCB 0xD7 rfl (fun _ => rfl) rfl
theorem set_3_B : Statement .set_3_B := of_two 0xCB 0xD8 rfl (fun _ => rfl) rfl
theorem set_3_C : Statement .set_3_C := of_two 0xCB 0xD9 rfl (fun _ => rfl) rfl
theorem set_3_D : Statement .set_3_D := of_two 0xCB 0xDA rfl (fun _ => rfl) rfl
theorem set_3_E : Statement .set_3_E := of_two 0xCB 0xDB rfl (fun _ => rfl) rfl
theorem set_3_H : Statement .set_3_H := of_two 0xCB 0xDC rfl (fun _ => rfl) rfl
theorem set_3_L : Statement .set_3_L := of_two 0xCB 0xDD rfl (fun _ => rfl) rfl
theorem set_3_atHL : Statement .set_3_atHL := of_two 0xCB 0xDE rfl (fun _ => rfl) rfl
theorem set_3_A : Statement .set_3_A := of_two 0xCB 0xDF rfl (fun _ => rfl) rfl
theorem set_4_B : Statement .set_4_B := of_two 0xCB 0xE0 rfl (fun _ => rfl) rfl
theorem set_4_C : Statement .set_4_C := of_two 0xCB 0xE1 rfl (fun _ => rfl) rfl
theorem set_4_D : Statement .set_4_D := of_two 0xCB 0xE2 rfl (fun _ => rfl) rfl
theorem set_4_E : Statement .set_4_E := of_two 0xCB 0xE3 rfl (fun _ => rfl) rfl
theorem set_4_H : Statement .set_4_H := of_two 0xCB 0xE4 rfl (fun _ => rfl) rfl
theorem set_4_L : Statement .set_4_L := of_two 0xCB 0xE5 rfl (fun _ => rfl) rfl
theorem set_4_atHL : Statement .set_4_atHL := of_two 0xCB 0xE6 rfl (fun _ => rfl) rfl
theorem set_4_A : Statement .set_4_A := of_two 0xCB 0xE7 rfl (fun _ => rfl) rfl
theorem set_5_B : Statement .set_5_B := of_two 0xCB 0xE8 rfl (fun _ => rfl) rfl
theorem set_5_C : Statement .set_5_C := of_two 0xCB 0xE9 rfl (fun _ => rfl) rfl
theorem set_5_D : Statement .set_5_D := of_two 0xCB 0xEA rfl (fun _ => rfl) rfl
theorem set_5_E : Statement .set_5_E := of_two 0xCB 0xEB rfl (fun _ => rfl) rfl
theorem set_5_H : Statement .set_5_H := of_two 0xCB 0xEC rfl (fun _ => rfl) rfl
theorem set_5_L : Statement .set_5_L := of_two 0xCB 0xED rfl (fun _ => rfl) rfl
theorem set_5_atHL : Statement .set_5_atHL := of_two 0xCB 0xEE rfl (fun _ => rfl) rfl
theorem set_5_A : Statement .set_5_A := of_two 0xCB 0xEF rfl (fun _ => rfl) rfl
theorem set_6_B : Statement .set_6_B := of_two 0xCB 0xF0 rfl (fun _ => rfl) rfl
theorem set_6_C : Statement .set_6_C := of_two 0xCB 0xF1 rfl (fun _ => rfl) rfl
theorem set_6_D : Statement .set_6_D := of_two 0xCB 0xF2 rfl (fun _ => rfl) rfl
theorem set_6_E : Statement .set_6_E := of_two 0xCB 0xF3 rfl (fun _ => rfl) rfl
theorem set_6_H : Statement .set_6_H := of_two 0xCB 0xF4 rfl (fun _ => rfl) rfl
theorem set_6_L : Statement .set_6_L := of_two 0xCB 0xF5 rfl (fun _ => rfl) rfl
theorem set_6_atHL : Statement .set_6_atHL := of_two 0xCB 0xF6 rfl (fun _ => rfl) rfl
theorem set_6_A : Statement .set_6_A := of_two 0xCB 0xF7 rfl (fun _ => rfl) rfl
theorem set_7_B : Statement .set_7_B := of_two 0xCB 0xF8 rfl (fun _ => rfl) rfl
theorem set_7_C : Statement .set_7_C := of_two 0xCB 0xF9 rfl (fun _ => rfl) rfl
theorem set_7_D : Statement .set_7_D := of_two 0xCB 0xFA rfl (fun _ => rfl) rfl
theorem set_7_E : Statement .set_7_E := of_two 0xCB 0xFB rfl (fun _ => rfl) rfl
theorem set_7_H : Statement .set_7_H := of_two 0xCB 0xFC rfl (fun _ => rfl) rfl
theorem set_7_L : Statement .set_7_L := of_two 0xCB 0xFD rfl (fun _ => rfl) rfl
theorem set_7_atHL : Statement .set_7_atHL := of_two 0xCB 0xFE rfl (fun _ => rfl) rfl
theorem set_7_A : Statement .set_7_A := of_two 0xCB 0xFF rfl (fun _ => rfl) rfl

end Sys2Proof.Laws.RoundTrip
end

