-- ==== Sys2Proof/Laws/Screen.lean ====
section
/-! SUPPORT. Drawing (60_exceptions R576 to R583): what the tile, palette, window and sprite functions compute, in plain
arithmetic, and that a line is drawn alike before and after the start-of-line writes. -/

namespace Sys2Proof.Machine

/-- A palette lookup in plain arithmetic (60_exceptions R583). -/
theorem shadeOf_toNat (p : Byte) (ci : Shade) : (shadeOf p ci).toNat = p.toNat / 4 ^ ci.toNat % 4 := by
  revert p ci; decide +kernel

/-- The colour index of a tile pixel from its two planes (60_exceptions R577). -/
theorem tilePixel_toNat (s : State) (t r c : Nat) : (tilePixel s t r c).toNat =
    2 * ((s.cell (t + 2 * r + 1)).getLsbD (7 - c)).toNat + ((s.cell (t + 2 * r)).getLsbD (7 - c)).toNat := by
  unfold tilePixel
  dsimp only
  generalize (s.cell (t + 2 * r + 1)).getLsbD (7 - c) = hi
  generalize (s.cell (t + 2 * r)).getLsbD (7 - c) = lo
  revert hi lo; decide

/-- Where a background tile lies: below 128 from 0x9000 with LCDC bit 4 clear, else from 0x8000 (60_exceptions R577). -/
theorem bgTileAddr_eq (s : State) (n : Byte) : bgTileAddr s n =
    if lcdc s 4 = false ∧ n.toNat < 128 then 0x9000 + 16 * n.toNat else 0x8000 + 16 * n.toNat := by
  unfold bgTileAddr
  have := n.isLt
  rw [BitVec.toInt_eq_toNat_cond]
  cases lcdc s 4 <;> simp <;> split <;> split <;> omega

/-- The window line is cleared at the first dot of a frame only (60_exceptions R571). -/
theorem ppuEntered_windowLine (s : State) :
    (ppuEntered s).windowLine = if s.line = 0 ∧ s.dot = 0 then 0 else s.windowLine := by
  unfold ppuEntered lineStart vblank requestInterrupt
  by_cases h : s.dot = 0 <;> by_cases h2 : s.line = 0 <;> simp [h, h2]
  split <;> simp

/-- After the drawing, a dot leaves the window line and the framebuffer. -/
theorem ppuDot_windowLine (s : State) : (ppuDot s).windowLine = (ppuDrawn (ppuEntered s)).windowLine := by
  rw [ppuDot_eq, nextDot_windowLine, updateStat_windowLine]

theorem ppuDot_framebuffer (s : State) : (ppuDot s).framebuffer = (ppuDrawn (ppuEntered s)).framebuffer := by
  rw [ppuDot_eq]; simp

/-! ## Two states that draw the same -/

/-- Two states that agree on what drawing reads: every cell but LY and IF, and the parameters. -/
structure SameScreen (s t : State) : Prop where
  cell : ∀ y, y ≠ 0xFF44 → y ≠ 0xFF0F → t.cell y = s.cell y
  cfg : t.cfg = s.cfg

theorem SameScreen.lcdc {s t} (h : SameScreen s t) (b : Nat) : lcdc t b = lcdc s b := by
  unfold Machine.lcdc; rw [h.cell _ (by decide) (by decide)]

theorem tilePixel_congr {s t} (h : SameScreen s t) (a r c : Nat) (ha : a + 2 * r + 1 < 0xFF00) :
    tilePixel t a r c = tilePixel s a r c := by
  unfold tilePixel; rw [h.cell _ (by omega) (by omega), h.cell _ (by omega) (by omega)]

theorem bgTileAddr_lt (s : State) (n : Byte) : bgTileAddr s n < 0x9800 := by
  rw [bgTileAddr_eq]; have := n.isLt; split <;> omega

/-- Drawing reads no cell that the start of a line writes. -/
theorem mapPixel_congr {s t} (h : SameScreen s t) (base py px : Nat) (hb : base ≤ 0x9C00) (hy : py < 256) (hx : px < 256) :
    mapPixel t base py px = mapPixel s base py px := by
  unfold mapPixel
  dsimp only
  rw [h.cell _ (by omega) (by omega)]
  have e : ∀ n, bgTileAddr t n = bgTileAddr s n := by intro n; unfold bgTileAddr; rw [h.lcdc]
  rw [e, tilePixel_congr h]
  have := bgTileAddr_lt s (s.cell (base + 32 * (py / 8) + px / 8))
  omega

theorem spriteIndex_congr {s t} (h : SameScreen s t) (sp : Sprite) (L x : Nat) :
    spriteIndex t sp L x = spriteIndex s sp L x := by
  unfold spriteIndex spriteHeight
  rw [h.lcdc]
  dsimp only
  rw [tilePixel_congr h]
  have lt (b : Byte) : b.toNat < 256 := b.isLt
  refine Nat.lt_of_le_of_lt (Nat.add_le_add (Nat.add_le_add (Nat.add_le_add_left (Nat.mul_le_mul_left 16 (Nat.le_of_lt (lt _))) _)
    (Nat.mul_le_mul_left 2 (Nat.le_of_lt (Nat.mod_lt _ (by decide : 0 < 8))))) (Nat.le_refl 1)) (by decide)

theorem windowCovers_congr {s t} (h : SameScreen s t) (L x : Nat) : windowCovers t L x = windowCovers s L x := by
  unfold windowCovers
  rw [h.lcdc, h.lcdc, h.cell _ (by decide) (by decide), h.cell _ (by decide) (by decide)]

theorem compositePixel_congr {s t} (h : SameScreen s t) (L x : Nat) (bgci bg : Shade) (sprites : List Sprite) :
    compositePixel t L x bgci bg sprites = compositePixel s L x bgci bg sprites := by
  induction sprites with
  | nil => rfl
  | cons q qs ih =>
    unfold compositePixel spritePalette
    dsimp only
    rw [ih, h.cfg, spriteIndex_congr h, h.cell _ (by decide) (by decide), h.cell _ (by decide) (by decide)]

theorem selectedSprites_congr {s t} (h : SameScreen s t) (L : Nat) : selectedSprites t L = selectedSprites s L := by
  unfold selectedSprites spriteHeight
  rw [h.lcdc, h.cfg]
  have : (List.range 40).map (oamEntry t) = (List.range 40).map (oamEntry s) := by
    apply List.map_congr_left
    intro i hi
    have := List.mem_range.1 hi
    unfold oamEntry
    simp only [h.cell (0xFE00 + 4 * i) (by omega) (by omega), h.cell (0xFE00 + 4 * i + 1) (by omega) (by omega),
      h.cell (0xFE00 + 4 * i + 2) (by omega) (by omega), h.cell (0xFE00 + 4 * i + 3) (by omega) (by omega)]
  rw [this]

theorem ppuEntered_sameScreen (s : State) : SameScreen s (ppuEntered s) := ⟨fun y => ppuEntered_cell s y, ppuEntered_cfg s⟩

/-- One pixel of a drawn line (60_exceptions R576). -/
theorem lineShades_getD (s : State) (L x : Nat) (hx : x < 160) : (lineShades s L).getD x 0 =
    if lcdc s 7 = false then 0 else pixelShade s L (if lcdc s 1 then selectedSprites s L else []) x := by
  unfold lineShades
  split
  · unfold blankLine; rw [List.getD_eq_getElem?_getD, List.getElem?_replicate]; split <;> rfl
  · simp [visibleWidth, hx, List.getD_eq_getElem?_getD]

/-- The window supplies a pixel of a line exactly when it reaches the last column (60_exceptions R576, R579). -/
theorem windowUsed_eq (s : State) (L : Nat) : windowUsed s L = (lcdc s 7 && lcdc s 0 && lcdc s 5 &&
    decide ((s.cell 0xFF4A).toNat ≤ L) && decide ((s.cell 0xFF4B).toNat ≤ 166)) := by
  unfold windowUsed windowCovers
  rw [Bool.eq_iff_iff]
  simp only [Bool.and_eq_true, List.any_eq_true, List.mem_range, decide_eq_true_eq, visibleWidth, addrWY, addrWX]
  constructor
  · rintro ⟨a, x, hx, ⟨⟨b, c⟩, d⟩, e⟩; exact ⟨⟨⟨⟨a, b⟩, c⟩, d⟩, by omega⟩
  · rintro ⟨⟨⟨⟨a, b⟩, c⟩, d⟩, e⟩; exact ⟨a, 159, by omega, ⟨⟨b, c⟩, d⟩, by omega⟩

end Sys2Proof.Machine
end

