-- ==== Sys2Proof/Laws/Step.lean ====
section
/-! SUPPORT. What a step can do, said once (`step_cases`), and what every shared effect leaves alone or keeps, one case per
effect. -/

namespace Sys2Proof.Machine

/-! ## The shape every effect has -/

/-- `t` differs from `s` in the CPU's own fields and by at most two bus writes: the bus and device fields of `t` are those of
`s` after the writes. -/
inductive EffectShape (s : State) : State → Prop where
  | none (r : State) : EffectShape s (regsOf r s)
  | one (r : State) (x : Word) (v : Byte) : EffectShape s (regsOf r (writeByte x v s))
  | two (r : State) (x y : Word) (v w : Byte) : EffectShape s (regsOf r (writeByte y w (writeByte x v s)))
  | divReset (r : State) : EffectShape s (regsOf r { s with div := 0 })

theorem regsOf_self (s : State) : regsOf s s = s := rfl

theorem regsOf_regsOf (r t s : State) : regsOf r (regsOf t s) = regsOf r s := rfl

/-- A state that agrees with `t` but for the CPU's own fields is `t` under `regsOf`. -/
theorem effectShape_regs {s t : State} (h : EffectShape s t) (r : State) : EffectShape s (regsOf r t) := by
  cases h with
  | none r' => exact .none r
  | one r' x v => exact .one r x v
  | two r' x y v w => exact .two r x y v w
  | divReset r' => exact .divReset r

/-- An effect that touches the CPU's own fields only. -/
theorem effectShape_same {s t : State} (h : t = regsOf t s) : EffectShape s t := by
  rw [h]; exact .none t

theorem effectShape_refl (s : State) : EffectShape s s := .none s

theorem effectShape_write (s : State) (x : Word) (v : Byte) : EffectShape s (writeByte x v s) := by
  have h := EffectShape.one (s := s) (writeByte x v s) x v
  rwa [regsOf_self] at h

theorem effectShape_dst (r : R8) (v : Byte) (s : State) : EffectShape s (dst r v s) := by
  cases r
  case atHL => exact effectShape_write s _ _
  all_goals exact effectShape_same rfl

theorem effectShape_push (v : Word) (s : State) : EffectShape s (push16 v s) := by
  have e : push16 v s = regsOf (push16 v s) (writeByte (s.sp - 2) (loByte v) (writeByte (s.sp - 2 + 1) (hiByte v) s)) := by
    have h : push16 v s = writeByte (s.sp - 2) (loByte v) (writeByte (s.sp - 2 + 1) (hiByte v)
        (regsOf { s with sp := s.sp - 2 } s)) := rfl
    rw [writeByte_regsOf, writeByte_regsOf] at h
    rw [h]; rfl
  rw [e]
  exact .two _ _ _ _ _

/-- Every shared effect has that shape. -/
theorem sharedEffect_shape {eff : State → State} (h : SharedEffect eff) (s : State) : EffectShape s (eff s) := by
  cases h
  case incR8 r => exact effectShape_regs (effectShape_dst r (src r s + 1) s) (incR8 r s)
  case decR8 r => exact effectShape_regs (effectShape_dst r (src r s - 1) s) (decR8 r s)
  case rotR8 op x => exact effectShape_regs (effectShape_dst x (rot op (src x s) s.flagC).1 s) (rotR8 op x s)
  case resR8 b x => exact effectShape_dst x _ s
  case setR8 b x => exact effectShape_dst x _ s
  case callTo x => exact effectShape_regs (effectShape_push s.pc s) (callTo x s)
  case loadR8 y z => exact effectShape_dst y _ s
  case loadImm y n => exact effectShape_dst y _ s
  case storeA m => exact effectShape_write s _ _
  case storeAStep d => exact effectShape_regs (effectShape_write s (s.reg16 .hl) s.a) (storeAStep d s)
  case storeSP x =>
    have h := EffectShape.two (s := s) (storeSP x s) x (x + 1) (loByte s.sp) (hiByte s.sp)
    exact h
  case pushR16 r => exact effectShape_push _ s
  case stopCpu => exact .divReset (stopCpu s)
  case aluA op operand => cases op <;> exact effectShape_same rfl
  case enableInterrupts =>
    unfold enableInterrupts
    split
    · exact effectShape_same rfl
    · exact effectShape_same rfl
  case haltCpu =>
    unfold haltCpu
    split
    · exact effectShape_same rfl
    · exact effectShape_same rfl
  all_goals exact effectShape_same rfl

/-- A property of the bus and device fields that every bus write keeps, every shared effect keeps. -/
theorem sharedEffect_keeps {eff : State → State} (h : SharedEffect eff) (P : State → Prop)
    (hr : ∀ r t, P t → P (regsOf r t)) (hw : ∀ x v t, P t → P (writeByte x v t)) (hd : ∀ t, P t → P { t with div := 0 })
    (s : State) (hs : P s) : P (eff s) := by
  have hs' := sharedEffect_shape h s
  generalize eff s = t at hs'
  cases hs' with
  | none r => exact hr _ _ hs
  | one r x v => exact hr _ _ (hw _ _ _ hs)
  | two r x y v w => exact hr _ _ (hw _ _ _ (hw _ _ _ hs))
  | divReset r => exact hr _ _ (hd _ hs)

/-- No effect touches the fault, the frame counter or the other fields that neither the registers' writes nor the bus reach. -/
theorem sharedEffect_fault {eff : State → State} (h : SharedEffect eff) (s : State) : (eff s).fault = s.fault := by
  cases h
  case aluA op operand => cases op <;> rfl
  case incR8 r => cases r <;> simp [incR8, dst, State.setReg8]
  case decR8 r => cases r <;> simp [decR8, dst, State.setReg8]
  case rotR8 op x => cases x <;> simp [rotR8, dst, State.setReg8]
  case resR8 b x => cases x <;> simp [resR8, dst, State.setReg8]
  case setR8 b x => cases x <;> simp [setR8, dst, State.setReg8]
  case loadR8 y z => cases y <;> simp [loadR8, dst, State.setReg8]
  case loadImm y n => cases y <;> simp [loadImm, dst, State.setReg8]
  case callTo x => simp [callTo]
  case storeA m => simp [storeA]
  case storeAStep d => simp [storeAStep, State.setReg16, State.setReg8]
  case storeSP x => simp [storeSP]
  case pushR16 r => simp [pushR16]
  case addHL r => rfl
  case enableInterrupts => unfold enableInterrupts; split <;> rfl
  case haltCpu => unfold haltCpu; split <;> rfl
  all_goals rfl

/-- F's low nibble stays 0 (10_state R52, R55). -/
theorem sharedEffect_lowNibble {eff : State → State} (h : SharedEffect eff) (s : State) (hs : s.f &&& 0x0F = 0) :
    (eff s).f &&& 0x0F = 0 := by
  have hd : ∀ (r : R8) (v : Byte), (dst r v s).f = s.f := by intro r v; cases r <;> simp [dst, State.setReg8]
  cases h
  case aluA op operand => cases op <;> exact packFlags_low _ _ _ _
  case incR8 r => exact packFlags_low _ _ _ _
  case decR8 r => exact packFlags_low _ _ _ _
  case rotR8 op x => exact packFlags_low _ _ _ _
  case resR8 b x => rw [resR8, hd]; exact hs
  case setR8 b x => rw [setR8, hd]; exact hs
  case loadR8 y z => rw [loadR8, hd]; exact hs
  case loadImm y n => rw [loadImm, hd]; exact hs
  case callTo x => simpa [callTo] using hs
  case storeA m => simpa [storeA] using hs
  case storeAStep d => simpa [storeAStep, State.setReg16, State.setReg8] using hs
  case storeSP x => simpa [storeSP] using hs
  case pushR16 r => simpa [pushR16] using hs
  case enableInterrupts => unfold enableInterrupts; split <;> exact hs
  case haltCpu => unfold haltCpu; split <;> exact hs
  case popAF =>
    show loByte (stackTop s) &&& 0xF0 &&& 0x0F = 0
    rw [BitVec.and_assoc]
    simp
  all_goals first
    | exact hs
    | exact packFlags_low _ _ _ _

/-! ## The step -/

/-- Every instruction completes: `exec` answers a next state. -/
theorem exec_next (i : Instr) (s : State) : ∃ t, exec i s = .next t := by
  rcases exec_cases i s with ⟨_, len, cost, eff, _, h⟩ | ⟨op, _, h⟩
  · exact ⟨_, h⟩
  · exact ⟨_, h⟩

/-- All the ways a step can go. -/
theorem step_cases {s t : State} (h : step s = .next t) :
    (s.fault ≠ none ∧ t = s) ∨
    (s.fault = none ∧ s.stopped = true ∧ t = s.charge 4) ∨
    (s.fault = none ∧ s.stopped = false ∧ s.halted = true ∧ pending s = 0 ∧ t = advance 4 (s.charge 4)) ∨
    (s.fault = none ∧ s.stopped = false ∧ s.ime = true ∧ pending s ≠ 0 ∧
      t = advance 24 ((dispatchInterrupt { s with halted := false }).charge 24)) ∨
    (s.fault = none ∧ s.stopped = false ∧ ¬(s.halted = true ∧ pending s = 0) ∧ ¬(s.ime = true ∧ pending s ≠ 0) ∧
      ∃ u, exec (fetch { s with halted := false }) { s with halted := false } = .next u ∧
        t = finishStep { s with halted := false } u) := by
  unfold step stepWith at h
  split at h
  · next hf =>
    refine Or.inl ⟨?_, by injection h with h; exact h.symm⟩
    intro e; rw [e] at hf; exact absurd hf (by decide)
  · next hf =>
    have hf : s.fault = none := by
      cases e : s.fault with
      | none => rfl
      | some _ => rw [e] at hf; exact absurd rfl hf
    split at h
    · next hs => exact Or.inr (Or.inl ⟨hf, hs, by injection h with h; exact h.symm⟩)
    · next hs =>
      have hs : s.stopped = false := by simpa using hs
      split at h
      · next hh => exact Or.inr (Or.inr (Or.inl ⟨hf, hs, hh.1, hh.2, by injection h with h; exact h.symm⟩))
      · next hh =>
        unfold runOne at h
        split at h
        · next hi => exact Or.inr (Or.inr (Or.inr (Or.inl ⟨hf, hs, hi.1, hi.2, by injection h with h; exact h.symm⟩)))
        · next hi =>
          obtain ⟨u, hu⟩ := exec_next (fetch { s with halted := false }) { s with halted := false }
          rw [hu] at h
          exact Or.inr (Or.inr (Or.inr (Or.inr ⟨hf, hs, hh, hi, u, hu, by injection h with h; exact h.symm⟩)))

/-- What follows an instruction: nothing after the fault, else the advance of the state with the EI commit. -/
theorem finishStep_cases (s u : State) : (u.fault ≠ none ∧ finishStep s u = u) ∨
    (u.fault = none ∧ ∃ n, finishStep s u = advance n u ∨ finishStep s u = advance n { u with ime := true, eiPending := false }) := by
  by_cases e : u.fault = none
  · have h : finishStep s u = advance (u.cycles - s.cycles) (commitEi s.eiPending u) := by
      unfold finishStep
      rw [if_neg (by rw [e]; decide)]
    refine Or.inr ⟨e, u.cycles - s.cycles, ?_⟩
    rw [h]
    unfold commitEi
    split
    · exact Or.inr rfl
    · exact Or.inl rfl
  · refine Or.inl ⟨e, ?_⟩
    unfold finishStep
    rw [if_pos (Option.isSome_iff_ne_none.2 e)]

end Sys2Proof.Machine
end

