-- ==== Sys2Proof/Tests/Slice0.lean ====
section
/-! SUPPORT. Tests on fixed values, their expected results taken from 30_encoding and 95_test_vectors, and for every
obligation with hypotheses a state and operands that meet them. -/

namespace Sys2Proof.Tests

set_option Elab.async false

open Sys2Proof.Machine Sys2Proof.Claims

/-! ## Decoding: every constructor, from the bits of its word -/

/-- The opcodes of 41_alu8, bit by bit, followed by 0x34 0x12 (30_encoding R159). -/
theorem test_decode_alu8 : ∀ p ∈ (
  [(0b00000100, .inc_B), (0b00000101, .dec_B), (0b00001100, .inc_C), (0b00001101, .dec_C), (0b00010100, .inc_D),
   (0b00010101, .dec_D), (0b00011100, .inc_E), (0b00011101, .dec_E), (0b00100100, .inc_H), (0b00100101, .dec_H),
   (0b00100111, .daa), (0b00101100, .inc_L), (0b00101101, .dec_L), (0b00101111, .cpl), (0b00110100, .inc_atHL),
   (0b00110101, .dec_atHL), (0b00111100, .inc_A), (0b00111101, .dec_A), (0b10000000, .add_A_B), (0b10000001, .add_A_C),
   (0b10000010, .add_A_D), (0b10000011, .add_A_E), (0b10000100, .add_A_H), (0b10000101, .add_A_L),
   (0b10000110, .add_A_atHL), (0b10000111, .add_A_A), (0b10001000, .adc_A_B), (0b10001001, .adc_A_C),
   (0b10001010, .adc_A_D), (0b10001011, .adc_A_E), (0b10001100, .adc_A_H), (0b10001101, .adc_A_L),
   (0b10001110, .adc_A_atHL), (0b10001111, .adc_A_A), (0b10010000, .sub_B), (0b10010001, .sub_C), (0b10010010, .sub_D),
   (0b10010011, .sub_E), (0b10010100, .sub_H), (0b10010101, .sub_L), (0b10010110, .sub_atHL), (0b10010111, .sub_A),
   (0b10011000, .sbc_A_B), (0b10011001, .sbc_A_C), (0b10011010, .sbc_A_D), (0b10011011, .sbc_A_E),
   (0b10011100, .sbc_A_H), (0b10011101, .sbc_A_L), (0b10011110, .sbc_A_atHL), (0b10011111, .sbc_A_A),
   (0b10100000, .and_B), (0b10100001, .and_C), (0b10100010, .and_D), (0b10100011, .and_E), (0b10100100, .and_H),
   (0b10100101, .and_L), (0b10100110, .and_atHL), (0b10100111, .and_A), (0b10101000, .xor_B), (0b10101001, .xor_C),
   (0b10101010, .xor_D), (0b10101011, .xor_E), (0b10101100, .xor_H), (0b10101101, .xor_L), (0b10101110, .xor_atHL),
   (0b10101111, .xor_A), (0b10110000, .or_B), (0b10110001, .or_C), (0b10110010, .or_D), (0b10110011, .or_E),
   (0b10110100, .or_H), (0b10110101, .or_L), (0b10110110, .or_atHL), (0b10110111, .or_A), (0b10111000, .cp_B),
   (0b10111001, .cp_C), (0b10111010, .cp_D), (0b10111011, .cp_E), (0b10111100, .cp_H), (0b10111101, .cp_L),
   (0b10111110, .cp_atHL), (0b10111111, .cp_A), (0b11000110, .add_A_d8 0x34), (0b11001110, .adc_A_d8 0x34),
   (0b11010110, .sub_d8 0x34), (0b11011110, .sbc_A_d8 0x34), (0b11100110, .and_d8 0x34), (0b11101110, .xor_d8 0x34),
   (0b11110110, .or_d8 0x34), (0b11111110, .cp_d8 0x34)]
   : List (Byte × Instr)), decode3 p.1 0x34 0x12 = p.2 := by
  decide +kernel

/-- The opcodes of 42_alu16, bit by bit, followed by 0x34 0x12 (30_encoding R159). -/
theorem test_decode_alu16 : ∀ p ∈ (
  [(0b00000011, .inc_BC), (0b00001001, .add_HL_BC), (0b00001011, .dec_BC), (0b00010011, .inc_DE),
   (0b00011001, .add_HL_DE), (0b00011011, .dec_DE), (0b00100011, .inc_HL), (0b00101001, .add_HL_HL),
   (0b00101011, .dec_HL), (0b00110011, .inc_SP), (0b00111001, .add_HL_SP), (0b00111011, .dec_SP),
   (0b11101000, .add_SP_e8 0x34), (0b11111000, .ld_HL_SPe8 0x34)]
   : List (Byte × Instr)), decode3 p.1 0x34 0x12 = p.2 := by
  decide +kernel

/-- The opcodes of 43_rotate_shift, bit by bit, followed by 0x34 0x12 (30_encoding R159). -/
theorem test_decode_rotate_shift : ∀ p ∈ (
  [(0b00000111, .rlca), (0b00001111, .rrca), (0b00010111, .rla), (0b00011111, .rra)]
   : List (Byte × Instr)), decode3 p.1 0x34 0x12 = p.2 := by
  decide +kernel

/-- The prefixed words of 43_rotate_shift, 0xCB then the byte (30_encoding R161). -/
theorem test_decode_prefixed_rotate_shift : ∀ p ∈ (
  [(0b00000000, .rlc_B), (0b00000001, .rlc_C), (0b00000010, .rlc_D), (0b00000011, .rlc_E), (0b00000100, .rlc_H),
   (0b00000101, .rlc_L), (0b00000110, .rlc_atHL), (0b00000111, .rlc_A), (0b00001000, .rrc_B), (0b00001001, .rrc_C),
   (0b00001010, .rrc_D), (0b00001011, .rrc_E), (0b00001100, .rrc_H), (0b00001101, .rrc_L), (0b00001110, .rrc_atHL),
   (0b00001111, .rrc_A), (0b00010000, .rl_B), (0b00010001, .rl_C), (0b00010010, .rl_D), (0b00010011, .rl_E),
   (0b00010100, .rl_H), (0b00010101, .rl_L), (0b00010110, .rl_atHL), (0b00010111, .rl_A), (0b00011000, .rr_B),
   (0b00011001, .rr_C), (0b00011010, .rr_D), (0b00011011, .rr_E), (0b00011100, .rr_H), (0b00011101, .rr_L),
   (0b00011110, .rr_atHL), (0b00011111, .rr_A), (0b00100000, .sla_B), (0b00100001, .sla_C), (0b00100010, .sla_D),
   (0b00100011, .sla_E), (0b00100100, .sla_H), (0b00100101, .sla_L), (0b00100110, .sla_atHL), (0b00100111, .sla_A),
   (0b00101000, .sra_B), (0b00101001, .sra_C), (0b00101010, .sra_D), (0b00101011, .sra_E), (0b00101100, .sra_H),
   (0b00101101, .sra_L), (0b00101110, .sra_atHL), (0b00101111, .sra_A), (0b00110000, .swap_B), (0b00110001, .swap_C),
   (0b00110010, .swap_D), (0b00110011, .swap_E), (0b00110100, .swap_H), (0b00110101, .swap_L),
   (0b00110110, .swap_atHL), (0b00110111, .swap_A), (0b00111000, .srl_B), (0b00111001, .srl_C), (0b00111010, .srl_D),
   (0b00111011, .srl_E), (0b00111100, .srl_H), (0b00111101, .srl_L), (0b00111110, .srl_atHL), (0b00111111, .srl_A)]
   : List (Byte × Instr)), decode3 0xCB p.1 0x12 = p.2 := by
  decide +kernel

/-- The BIT words of 44_bit_ops, 0xCB then the byte (30_encoding R161). -/
theorem test_decode_prefixed_bit : ∀ p ∈ (
  [(0b01000000, .bit_0_B), (0b01000001, .bit_0_C), (0b01000010, .bit_0_D), (0b01000011, .bit_0_E),
   (0b01000100, .bit_0_H), (0b01000101, .bit_0_L), (0b01000110, .bit_0_atHL), (0b01000111, .bit_0_A),
   (0b01001000, .bit_1_B), (0b01001001, .bit_1_C), (0b01001010, .bit_1_D), (0b01001011, .bit_1_E),
   (0b01001100, .bit_1_H), (0b01001101, .bit_1_L), (0b01001110, .bit_1_atHL), (0b01001111, .bit_1_A),
   (0b01010000, .bit_2_B), (0b01010001, .bit_2_C), (0b01010010, .bit_2_D), (0b01010011, .bit_2_E),
   (0b01010100, .bit_2_H), (0b01010101, .bit_2_L), (0b01010110, .bit_2_atHL), (0b01010111, .bit_2_A),
   (0b01011000, .bit_3_B), (0b01011001, .bit_3_C), (0b01011010, .bit_3_D), (0b01011011, .bit_3_E),
   (0b01011100, .bit_3_H), (0b01011101, .bit_3_L), (0b01011110, .bit_3_atHL), (0b01011111, .bit_3_A),
   (0b01100000, .bit_4_B), (0b01100001, .bit_4_C), (0b01100010, .bit_4_D), (0b01100011, .bit_4_E),
   (0b01100100, .bit_4_H), (0b01100101, .bit_4_L), (0b01100110, .bit_4_atHL), (0b01100111, .bit_4_A),
   (0b01101000, .bit_5_B), (0b01101001, .bit_5_C), (0b01101010, .bit_5_D), (0b01101011, .bit_5_E),
   (0b01101100, .bit_5_H), (0b01101101, .bit_5_L), (0b01101110, .bit_5_atHL), (0b01101111, .bit_5_A),
   (0b01110000, .bit_6_B), (0b01110001, .bit_6_C), (0b01110010, .bit_6_D), (0b01110011, .bit_6_E),
   (0b01110100, .bit_6_H), (0b01110101, .bit_6_L), (0b01110110, .bit_6_atHL), (0b01110111, .bit_6_A),
   (0b01111000, .bit_7_B), (0b01111001, .bit_7_C), (0b01111010, .bit_7_D), (0b01111011, .bit_7_E),
   (0b01111100, .bit_7_H), (0b01111101, .bit_7_L), (0b01111110, .bit_7_atHL), (0b01111111, .bit_7_A)]
   : List (Byte × Instr)), decode3 0xCB p.1 0x12 = p.2 := by
  decide +kernel

/-- The RES words of 44_bit_ops, 0xCB then the byte (30_encoding R161). -/
theorem test_decode_prefixed_res : ∀ p ∈ (
  [(0b10000000, .res_0_B), (0b10000001, .res_0_C), (0b10000010, .res_0_D), (0b10000011, .res_0_E),
   (0b10000100, .res_0_H), (0b10000101, .res_0_L), (0b10000110, .res_0_atHL), (0b10000111, .res_0_A),
   (0b10001000, .res_1_B), (0b10001001, .res_1_C), (0b10001010, .res_1_D), (0b10001011, .res_1_E),
   (0b10001100, .res_1_H), (0b10001101, .res_1_L), (0b10001110, .res_1_atHL), (0b10001111, .res_1_A),
   (0b10010000, .res_2_B), (0b10010001, .res_2_C), (0b10010010, .res_2_D), (0b10010011, .res_2_E),
   (0b10010100, .res_2_H), (0b10010101, .res_2_L), (0b10010110, .res_2_atHL), (0b10010111, .res_2_A),
   (0b10011000, .res_3_B), (0b10011001, .res_3_C), (0b10011010, .res_3_D), (0b10011011, .res_3_E),
   (0b10011100, .res_3_H), (0b10011101, .res_3_L), (0b10011110, .res_3_atHL), (0b10011111, .res_3_A),
   (0b10100000, .res_4_B), (0b10100001, .res_4_C), (0b10100010, .res_4_D), (0b10100011, .res_4_E),
   (0b10100100, .res_4_H), (0b10100101, .res_4_L), (0b10100110, .res_4_atHL), (0b10100111, .res_4_A),
   (0b10101000, .res_5_B), (0b10101001, .res_5_C), (0b10101010, .res_5_D), (0b10101011, .res_5_E),
   (0b10101100, .res_5_H), (0b10101101, .res_5_L), (0b10101110, .res_5_atHL), (0b10101111, .res_5_A),
   (0b10110000, .res_6_B), (0b10110001, .res_6_C), (0b10110010, .res_6_D), (0b10110011, .res_6_E),
   (0b10110100, .res_6_H), (0b10110101, .res_6_L), (0b10110110, .res_6_atHL), (0b10110111, .res_6_A),
   (0b10111000, .res_7_B), (0b10111001, .res_7_C), (0b10111010, .res_7_D), (0b10111011, .res_7_E),
   (0b10111100, .res_7_H), (0b10111101, .res_7_L), (0b10111110, .res_7_atHL), (0b10111111, .res_7_A)]
   : List (Byte × Instr)), decode3 0xCB p.1 0x12 = p.2 := by
  decide +kernel

/-- The SET words of 44_bit_ops, 0xCB then the byte (30_encoding R161). -/
theorem test_decode_prefixed_set : ∀ p ∈ (
  [(0b11000000, .set_0_B), (0b11000001, .set_0_C), (0b11000010, .set_0_D), (0b11000011, .set_0_E),
   (0b11000100, .set_0_H), (0b11000101, .set_0_L), (0b11000110, .set_0_atHL), (0b11000111, .set_0_A),
   (0b11001000, .set_1_B), (0b11001001, .set_1_C), (0b11001010, .set_1_D), (0b11001011, .set_1_E),
   (0b11001100, .set_1_H), (0b11001101, .set_1_L), (0b11001110, .set_1_atHL), (0b11001111, .set_1_A),
   (0b11010000, .set_2_B), (0b11010001, .set_2_C), (0b11010010, .set_2_D), (0b11010011, .set_2_E),
   (0b11010100, .set_2_H), (0b11010101, .set_2_L), (0b11010110, .set_2_atHL), (0b11010111, .set_2_A),
   (0b11011000, .set_3_B), (0b11011001, .set_3_C), (0b11011010, .set_3_D), (0b11011011, .set_3_E),
   (0b11011100, .set_3_H), (0b11011101, .set_3_L), (0b11011110, .set_3_atHL), (0b11011111, .set_3_A),
   (0b11100000, .set_4_B), (0b11100001, .set_4_C), (0b11100010, .set_4_D), (0b11100011, .set_4_E),
   (0b11100100, .set_4_H), (0b11100101, .set_4_L), (0b11100110, .set_4_atHL), (0b11100111, .set_4_A),
   (0b11101000, .set_5_B), (0b11101001, .set_5_C), (0b11101010, .set_5_D), (0b11101011, .set_5_E),
   (0b11101100, .set_5_H), (0b11101101, .set_5_L), (0b11101110, .set_5_atHL), (0b11101111, .set_5_A),
   (0b11110000, .set_6_B), (0b11110001, .set_6_C), (0b11110010, .set_6_D), (0b11110011, .set_6_E),
   (0b11110100, .set_6_H), (0b11110101, .set_6_L), (0b11110110, .set_6_atHL), (0b11110111, .set_6_A),
   (0b11111000, .set_7_B), (0b11111001, .set_7_C), (0b11111010, .set_7_D), (0b11111011, .set_7_E),
   (0b11111100, .set_7_H), (0b11111101, .set_7_L), (0b11111110, .set_7_atHL), (0b11111111, .set_7_A)]
   : List (Byte × Instr)), decode3 0xCB p.1 0x12 = p.2 := by
  decide +kernel

/-- The opcodes of 45_control_transfer, bit by bit, followed by 0x34 0x12 (30_encoding R159). -/
theorem test_decode_control : ∀ p ∈ (
  [(0b00011000, .jr_e8 0x34), (0b00100000, .jr_NZ_e8 0x34), (0b00101000, .jr_Z_e8 0x34), (0b00110000, .jr_NC_e8 0x34),
   (0b00111000, .jr_C_e8 0x34), (0b11000000, .ret_NZ), (0b11000010, .jp_NZ_a16 0x1234), (0b11000011, .jp_a16 0x1234),
   (0b11000100, .call_NZ_a16 0x1234), (0b11000111, .rst_00H), (0b11001000, .ret_Z), (0b11001001, .ret),
   (0b11001010, .jp_Z_a16 0x1234), (0b11001100, .call_Z_a16 0x1234), (0b11001101, .call_a16 0x1234),
   (0b11001111, .rst_08H), (0b11010000, .ret_NC), (0b11010010, .jp_NC_a16 0x1234), (0b11010100, .call_NC_a16 0x1234),
   (0b11010111, .rst_10H), (0b11011000, .ret_C), (0b11011001, .reti), (0b11011010, .jp_C_a16 0x1234),
   (0b11011100, .call_C_a16 0x1234), (0b11011111, .rst_18H), (0b11100111, .rst_20H), (0b11101001, .jp_HL),
   (0b11101111, .rst_28H), (0b11110111, .rst_30H), (0b11111111, .rst_38H)]
   : List (Byte × Instr)), decode3 p.1 0x34 0x12 = p.2 := by
  decide +kernel

/-- The opcodes of 46_loads, bit by bit, followed by 0x34 0x12 (30_encoding R159). -/
theorem test_decode_loads : ∀ p ∈ (
  [(0b00000001, .ld_BC_d16 0x1234), (0b00000010, .ld_atBC_A), (0b00000110, .ld_B_d8 0x34),
   (0b00001000, .ld_atA16_SP 0x1234), (0b00001010, .ld_A_atBC), (0b00001110, .ld_C_d8 0x34),
   (0b00010001, .ld_DE_d16 0x1234), (0b00010010, .ld_atDE_A), (0b00010110, .ld_D_d8 0x34), (0b00011010, .ld_A_atDE),
   (0b00011110, .ld_E_d8 0x34), (0b00100001, .ld_HL_d16 0x1234), (0b00100010, .ld_atHLinc_A),
   (0b00100110, .ld_H_d8 0x34), (0b00101010, .ld_A_atHLinc), (0b00101110, .ld_L_d8 0x34),
   (0b00110001, .ld_SP_d16 0x1234), (0b00110010, .ld_atHLdec_A), (0b00110110, .ld_atHL_d8 0x34),
   (0b00111010, .ld_A_atHLdec), (0b00111110, .ld_A_d8 0x34), (0b01000000, .ld_B_B), (0b01000001, .ld_B_C),
   (0b01000010, .ld_B_D), (0b01000011, .ld_B_E), (0b01000100, .ld_B_H), (0b01000101, .ld_B_L),
   (0b01000110, .ld_B_atHL), (0b01000111, .ld_B_A), (0b01001000, .ld_C_B), (0b01001001, .ld_C_C),
   (0b01001010, .ld_C_D), (0b01001011, .ld_C_E), (0b01001100, .ld_C_H), (0b01001101, .ld_C_L),
   (0b01001110, .ld_C_atHL), (0b01001111, .ld_C_A), (0b01010000, .ld_D_B), (0b01010001, .ld_D_C),
   (0b01010010, .ld_D_D), (0b01010011, .ld_D_E), (0b01010100, .ld_D_H), (0b01010101, .ld_D_L),
   (0b01010110, .ld_D_atHL), (0b01010111, .ld_D_A), (0b01011000, .ld_E_B), (0b01011001, .ld_E_C),
   (0b01011010, .ld_E_D), (0b01011011, .ld_E_E), (0b01011100, .ld_E_H), (0b01011101, .ld_E_L),
   (0b01011110, .ld_E_atHL), (0b01011111, .ld_E_A), (0b01100000, .ld_H_B), (0b01100001, .ld_H_C),
   (0b01100010, .ld_H_D), (0b01100011, .ld_H_E), (0b01100100, .ld_H_H), (0b01100101, .ld_H_L),
   (0b01100110, .ld_H_atHL), (0b01100111, .ld_H_A), (0b01101000, .ld_L_B), (0b01101001, .ld_L_C),
   (0b01101010, .ld_L_D), (0b01101011, .ld_L_E), (0b01101100, .ld_L_H), (0b01101101, .ld_L_L),
   (0b01101110, .ld_L_atHL), (0b01101111, .ld_L_A), (0b01110000, .ld_atHL_B), (0b01110001, .ld_atHL_C),
   (0b01110010, .ld_atHL_D), (0b01110011, .ld_atHL_E), (0b01110100, .ld_atHL_H), (0b01110101, .ld_atHL_L),
   (0b01110111, .ld_atHL_A), (0b01111000, .ld_A_B), (0b01111001, .ld_A_C), (0b01111010, .ld_A_D),
   (0b01111011, .ld_A_E), (0b01111100, .ld_A_H), (0b01111101, .ld_A_L), (0b01111110, .ld_A_atHL),
   (0b01111111, .ld_A_A), (0b11100000, .ldh_atA8_A 0x34), (0b11100010, .ld_atC_A), (0b11101010, .ld_atA16_A 0x1234),
   (0b11110000, .ldh_A_atA8 0x34), (0b11110010, .ld_A_atC), (0b11111001, .ld_SP_HL), (0b11111010, .ld_A_atA16 0x1234)]
   : List (Byte × Instr)), decode3 p.1 0x34 0x12 = p.2 := by
  decide +kernel

/-- The opcodes of 47_stack, bit by bit, followed by 0x34 0x12 (30_encoding R159). -/
theorem test_decode_stack : ∀ p ∈ (
  [(0b11000001, .pop_BC), (0b11000101, .push_BC), (0b11010001, .pop_DE), (0b11010101, .push_DE), (0b11100001, .pop_HL),
   (0b11100101, .push_HL), (0b11110001, .pop_AF), (0b11110101, .push_AF)]
   : List (Byte × Instr)), decode3 p.1 0x34 0x12 = p.2 := by
  decide +kernel

/-- The opcodes of 48_cpu_control, bit by bit, followed by 0x34 0x12 (30_encoding R159). -/
theorem test_decode_cpu : ∀ p ∈ (
  [(0b00000000, .nop), (0b00010000, .stop 0x34), (0b00110111, .scf), (0b00111111, .ccf), (0b01110110, .halt),
   (0b11110011, .di), (0b11111011, .ei)]
   : List (Byte × Instr)), decode3 p.1 0x34 0x12 = p.2 := by
  decide +kernel

/-- The eleven illegal bytes (30_encoding R162). -/
theorem test_decode_illegal : ∀ p ∈ (
  [(0b11010011, .illegal_D3), (0b11011011, .illegal_DB), (0b11011101, .illegal_DD), (0b11100011, .illegal_E3),
   (0b11100100, .illegal_E4), (0b11101011, .illegal_EB), (0b11101100, .illegal_EC), (0b11101101, .illegal_ED),
   (0b11110100, .illegal_F4), (0b11111100, .illegal_FC), (0b11111101, .illegal_FD)]
   : List (Byte × Instr)), decode3 p.1 0x34 0x12 = p.2 := by
  decide +kernel

/-- WellFormed refuses each of the eleven (30_encoding R162). -/
theorem test_wellFormed_refuses : ∀ i ∈ (
  [.illegal_D3, .illegal_DB, .illegal_DD, .illegal_E3, .illegal_E4, .illegal_EB, .illegal_EC, .illegal_ED, .illegal_F4,
   .illegal_FC, .illegal_FD]
   : List Instr), i.wellFormed = false := by decide

/-! ## Instructions: rows of 95_test_vectors, part 2 -/

/-- The start state of the vectors (95_test_vectors, conventions). -/
def start : State := { pc := 0xC000, sp := 0xFFFE }

/-- The start state with code at PC. -/
def running (bs : List Byte) : State := { start with mem := storeBytes 0xC000 bs [] }

/-- The outcome is a next state with the property. -/
def shows (r : Result) (p : State → Bool) : Bool :=
  match r with
  | .next t => p t
  | _ => false

/-- From a decided `shows`, the next state itself. -/
theorem next_of_decide {r : Result} (p : State → Prop) [DecidablePred p] (h : shows r (fun t => decide (p t)) = true) :
    ∃ t, r = .next t ∧ p t := by
  cases r with
  | next t => exact ⟨t, rfl, of_decide_eq_true h⟩
  | fault _ => cases h
  | refused _ => cases h

theorem test_add_wraps : shows (exec .add_A_B { start with a := 0xFF, b := 0x05 })
    (fun t => t.a == 0x04 && t.f == 0x30 && t.pc == 0xC001 && t.cycles == 4) = true := by
  decide +kernel

theorem test_add_a_a : shows (exec .add_A_A { start with a := 0x80 })
    (fun t => t.a == 0 && t.f == 0x90) = true := by
  decide +kernel

theorem test_adc_memory : shows (exec .adc_A_atHL { start with h := 0xC1, f := 0x10, mem := [(0xC100, 0xFF)] })
    (fun t => t.a == 0 && t.f == 0xB0 && t.cycles == 8) = true := by
  decide +kernel

theorem test_sub_borrows : shows (exec .sub_B { start with a := 0x01, b := 0x02 })
    (fun t => t.a == 0xFF && t.f == 0x70) = true := by
  decide +kernel

theorem test_sbc_self : shows (exec .sbc_A_A { start with a := 0x42, f := 0x10 })
    (fun t => t.a == 0xFF && t.f == 0x70) = true := by
  decide +kernel

theorem test_sbc_both_borrows : shows (exec .sbc_A_B { start with b := 0xFF, f := 0x10 })
    (fun t => t.a == 0 && t.f == 0xF0) = true := by
  decide +kernel

theorem test_and_zero : shows (exec .and_B { start with a := 0xF0, b := 0x0F, f := 0x50 })
    (fun t => t.a == 0 && t.f == 0xA0) = true := by
  decide +kernel

theorem test_xor_self : shows (exec .xor_A { start with a := 0x77, f := 0x70 })
    (fun t => t.a == 0 && t.f == 0x80) = true := by
  decide +kernel

theorem test_or_d : shows (exec .or_D { start with a := 0x50, d := 0x05 })
    (fun t => t.a == 0x55 && t.f == 0) = true := by
  decide +kernel

theorem test_cp_keeps_a : shows (exec (.cp_d8 0x3D) { start with a := 0x3C })
    (fun t => t.a == 0x3C && t.f == 0x70 && t.pc == 0xC002 && t.cycles == 8) = true := by
  decide +kernel

theorem test_inc_keeps_carry : shows (exec .inc_B { start with b := 0xFF, f := 0x10 })
    (fun t => t.b == 0 && t.f == 0xB0) = true := by
  decide +kernel

theorem test_dec_memory : shows (exec .dec_atHL { start with h := 0xC1 })
    (fun t => t.cell 0xC100 == 0xFF && t.f == 0x60 && t.cycles == 12) = true := by
  decide +kernel

theorem test_cpl : shows (exec .cpl { start with a := 0x35, f := 0x90 })
    (fun t => t.a == 0xCA && t.f == 0xF0) = true := by
  decide +kernel

theorem test_daa_after_add : shows (exec .daa { start with a := 0x9A })
    (fun t => t.a == 0 && t.f == 0x90) = true := by
  decide +kernel

theorem test_daa_after_sub : shows (exec .daa { start with a := 0x06, f := 0x60 })
    (fun t => t.a == 0 && t.f == 0xC0) = true := by
  decide +kernel

theorem test_add_hl_half_carry : shows (exec .add_HL_BC { start with h := 0x8A, l := 0x23, b := 0x06, c := 0x05 })
    (fun t => t.reg16 .hl == 0x9028 && t.f == 0x20 && t.cycles == 8) = true := by
  decide +kernel

theorem test_dec_pair_no_flags : shows (exec .dec_DE { start with f := 0xF0 })
    (fun t => t.reg16 .de == 0xFFFF && t.f == 0xF0) = true := by
  decide +kernel

theorem test_add_sp_negative : shows (exec (.add_SP_e8 0xFF) { start with sp := 0x0001 })
    (fun t => t.sp == 0 && t.f == 0x30 && t.pc == 0xC002 && t.cycles == 16) = true := by
  decide +kernel

theorem test_ld_hl_sp_negative : shows (exec (.ld_HL_SPe8 0xFE) { start with sp := 0x0001 })
    (fun t => t.reg16 .hl == 0xFFFF && t.f == 0 && t.cycles == 12) = true := by
  decide +kernel

theorem test_rlca_clears_zero : shows (exec .rlca { start with f := 0x80 })
    (fun t => t.a == 0 && t.f == 0) = true := by
  decide +kernel

theorem test_rra_through_carry : shows (exec .rra { start with a := 0x81, f := 0x10 })
    (fun t => t.a == 0xC0 && t.f == 0x10) = true := by
  decide +kernel

theorem test_rl_d : shows (exec .rl_D { start with d := 0x11, f := 0x10 })
    (fun t => t.d == 0x23 && t.f == 0 && t.pc == 0xC002 && t.cycles == 8) = true := by
  decide +kernel

theorem test_sra_memory : shows (exec .sra_atHL { start with h := 0xC1, mem := [(0xC100, 0x81)] })
    (fun t => t.cell 0xC100 == 0xC0 && t.f == 0x10 && t.cycles == 16) = true := by
  decide +kernel

theorem test_swap : shows (exec .swap_A { start with a := 0xF1, f := 0x70 })
    (fun t => t.a == 0x1F && t.f == 0) = true := by
  decide +kernel

theorem test_srl_zero : shows (exec .srl_A { start with a := 0x01 })
    (fun t => t.a == 0 && t.f == 0x90) = true := by
  decide +kernel

theorem test_bit_memory : shows (exec .bit_4_atHL { start with h := 0xC1, mem := [(0xC100, 0xEF)] })
    (fun t => t.f == 0xA0 && t.cycles == 12) = true := by
  decide +kernel

theorem test_res_memory : shows (exec .res_0_atHL { start with h := 0xC1, mem := [(0xC100, 0xFF)] })
    (fun t => t.cell 0xC100 == 0xFE && t.f == 0 && t.cycles == 16) = true := by
  decide +kernel

theorem test_set_e : shows (exec .set_1_E start)
    (fun t => t.e == 0x02 && t.f == 0) = true := by
  decide +kernel

theorem test_jp_not_taken : shows (exec (.jp_NZ_a16 0x1234) { start with f := 0x80 })
    (fun t => t.pc == 0xC003 && t.cycles == 12) = true := by
  decide +kernel

theorem test_jr_loops : shows (exec (.jr_e8 0xFE) start)
    (fun t => t.pc == 0xC000 && t.cycles == 12) = true := by
  decide +kernel

theorem test_call : shows (exec (.call_a16 0x1234) start)
    (fun t => t.pc == 0x1234 && t.sp == 0xFFFC && t.cell 0xFFFD == 0xC0 && t.cell 0xFFFC == 0x03 && t.cycles == 24) = true := by
  decide +kernel

theorem test_reti : shows (exec .reti { start with sp := 0xFFFC, mem := [(0xFFFC, 0x34), (0xFFFD, 0x12)] })
    (fun t => t.pc == 0x1234 && t.sp == 0xFFFE && t.ime && t.cycles == 16) = true := by
  decide +kernel

theorem test_rst : shows (exec .rst_28H start)
    (fun t => t.pc == 0x0028 && t.sp == 0xFFFC && t.cell 0xFFFC == 0x01 && t.cycles == 16) = true := by
  decide +kernel

theorem test_store_to_rom_ignored : shows (exec (.ld_atA16_A 0x1000) { start with a := 0x47 })
    (fun t => t.cell 0x1000 == 0 && t.mem == [] && t.pc == 0xC003 && t.cycles == 16) = true := by
  decide +kernel

theorem test_read_divider : shows (exec (.ldh_A_atA8 0x04) { start with div := 0xAB12 })
    (fun t => t.a == 0xAB && t.div == 0xAB12) = true := by
  decide +kernel

theorem test_write_divider : shows (exec (.ldh_atA8_A 0x04) { start with a := 0x77, div := 0xAB12 })
    (fun t => t.div == 0 && t.cycles == 12) = true := by
  decide +kernel

theorem test_hl_increment_wraps : shows (exec .ld_atHLinc_A { start with a := 0x4E, h := 0xFF, l := 0xFF })
    (fun t => t.reg16 .hl == 0 && t.cell 0xFFFF == 0x4E) = true := by
  decide +kernel

theorem test_store_sp : shows (exec (.ld_atA16_SP 0xC100) { start with sp := 0xBEEF })
    (fun t => t.cell 0xC100 == 0xEF && t.cell 0xC101 == 0xBE && t.cycles == 20) = true := by
  decide +kernel

theorem test_push_af : shows (exec .push_AF { start with a := 0x12, f := 0xB0 })
    (fun t => t.sp == 0xFFFC && t.cell 0xFFFD == 0x12 && t.cell 0xFFFC == 0xB0 && t.cycles == 16) = true := by
  decide +kernel

theorem test_pop_af_masks : shows (exec .pop_AF { start with sp := 0xFFFC, mem := [(0xFFFC, 0xFF), (0xFFFD, 0x12)] })
    (fun t => t.a == 0x12 && t.f == 0xF0 && t.sp == 0xFFFE && t.cycles == 12) = true := by
  decide +kernel

theorem test_ccf : shows (exec .ccf { start with f := 0x70 })
    (fun t => t.f == 0) = true := by
  decide +kernel

theorem test_ei_delayed : shows (exec .ei { start with cfg := { eiDelay := true } })
    (fun t => !t.ime && t.eiPending) = true := by
  decide +kernel

theorem test_halt_bug : shows (exec .halt { start with cfg := { haltBug := true }, mem := [(0xFF0F, 0x04), (0xFFFF, 0x04)] })
    (fun t => t.haltBug && !t.halted && t.pc == 0xC001) = true := by
  decide +kernel

theorem test_stop : shows (exec (.stop 0x00) { start with div := 0x1234 })
    (fun t => t.stopped && t.div == 0 && t.pc == 0xC002 && t.cycles == 4) = true := by
  decide +kernel

theorem test_dma : shows (exec (.ldh_atA8_A 0x46) { start with a := 0xC1, mem := [(0xC100, 0x5A), (0xC19F, 0x9F), (0xC1A0, 0x77)] })
    (fun t => t.cell 0xFE00 == 0x5A && t.cell 0xFE9F == 0x9F && t.cell 0xFEA0 == 0 && t.cell 0xFF46 == 0xC1 && t.cycles == 12) = true := by
  decide +kernel

/-! ## Steps, devices and the bus: 95_test_vectors, machine level -/

theorem test_step_dispatches_lowest : shows (step { start with ime := true, mem := [(0xFF0F, 0x1F), (0xFFFF, 0x1E)] })
    (fun t => t.pc == 0x0048 && t.sp == 0xFFFC && t.cell 0xFFFD == 0xC0 && t.cell 0xFFFC == 0x00 &&
      t.cell 0xFF0F == 0x1D && !t.ime && t.cycles == 24) = true := by
  decide +kernel

theorem test_step_high_request_bits_inert : shows (step { start with ime := true, mem := [(0xFF0F, 0xE0), (0xFFFF, 0xE0)] })
    (fun t => t.pc == 0xC001 && t.cycles == 4) = true := by
  decide +kernel

theorem test_step_illegal_byte : shows (step (running [0xD3])) (fun t =>
    decide (t = { running [0xD3] with fault := some (.unknownOpcode 0xD3 0xC000) })) = true := by
  decide +kernel

theorem test_step_halted_waits : shows (step { running [0x3C] with halted := true })
    (fun t => t.halted && t.a == 0 && t.pc == 0xC000 && t.cycles == 4 && t.div == 4) = true := by
  decide +kernel

theorem test_step_ei_delay_commits : shows (step { running [0x00] with eiPending := true, cfg := { eiDelay := true } })
    (fun t => t.ime && !t.eiPending && t.pc == 0xC001) = true := by
  decide +kernel

theorem test_step_halt_bug_repeats_byte : shows (step { running [0x3C] with haltBug := true, cfg := { haltBug := true } })
    (fun t => t.a == 1 && t.pc == 0xC000 && !t.haltBug) = true := by
  decide +kernel

theorem test_timer_overflow_reloads :
    let t := timerCycle { div := 0x000F, mem := [(0xFF05, 0xFF), (0xFF06, 0xAB), (0xFF07, 0x05)] }
    t.cell 0xFF05 = 0xAB ∧ t.cell 0xFF0F = 0x04 ∧ t.div = 0x0010 := by
  decide +kernel

theorem test_ppu_lyc_interrupt :
    let t := ppuDot { line := 2, mem := [(0xFF41, 0x40), (0xFF45, 0x02)] }
    t.cell 0xFF41 = 0x46 ∧ t.cell 0xFF0F = 0x02 ∧ t.cell 0xFF44 = 0x02 ∧ t.dot = 1 := by
  decide +kernel

/-- The first vectors of 95_test_vectors, rendering: background, identity palette; and the palette inverted. -/
theorem test_background_shades :
    (List.range 10).map (pixelShade { mem := [(0x8000, 0x3C), (0x8001, 0x7E), (0xFF40, 0x91), (0xFF47, 0xE4)] } 0 []) =
      [0, 2, 3, 3, 3, 3, 2, 0, 0, 2] ∧
    (List.range 10).map (pixelShade { mem := [(0x8000, 0x3C), (0x8001, 0x7E), (0xFF40, 0x91), (0xFF47, 0x1B)] } 0 []) =
      [3, 1, 0, 0, 0, 0, 1, 3, 3, 1] := by
  decide +kernel

/-- The window vector of 95_test_vectors. -/
theorem test_window_shades :
    (List.range 14).map (pixelShade { mem := [(0x8010, 0xFF), (0x8011, 0xFF), (0x9C00, 0x01), (0xFF40, 0xF1), (0xFF47, 0xE4),
      (0xFF4B, 0x0B)] } 0 []) = [0, 0, 0, 0, 3, 3, 3, 3, 3, 3, 3, 3, 0, 0] := by
  decide +kernel

/-- "lower X wins" of 95_test_vectors. -/
theorem test_sprite_order :
    let s : State := { mem := [(0x8010, 0xFF), (0x8021, 0xFF), (0xFE00, 16), (0xFE01, 12), (0xFE02, 1), (0xFE04, 16), (0xFE05, 8),
      (0xFE06, 2), (0xFF40, 0x93), (0xFF47, 0xE4), (0xFF48, 0xE4)] }
    (List.range 14).map (pixelShade s 0 (selectedSprites s 0)) = [2, 2, 2, 2, 2, 2, 2, 2, 1, 1, 1, 1, 0, 0] := by
  decide +kernel

theorem test_joypad_directions :
    let t := joypadSet .right true { mem := [(0xFF00, 0x20)] }
    readByte t 0xFF00 = 0xEE ∧ t.cell 0xFF0F = 0x10 := by
  decide +kernel

theorem test_mbc1_bank_zero_becomes_one : (writeByte 0x2000 0x00 { mbc1 := true, romBank := 3 }).romBank = 1 ∧
    (writeByte 0x3FFF 0x23 { mbc1 := true }).romBank = 3 ∧ readByte { mbc1 := true, romBank := 5 } 0x4000 = 0xFF := by
  decide +kernel

theorem test_boot_rom_path :
    let s := State.boot {} [0x10] (some [0x31, 0xFE])
    s.reg16 .af = 0 ∧ s.sp = 0 ∧ s.pc = 0 ∧ s.div = 0 ∧ readByte s 0x0000 = 0x31 ∧ readByte s 0x00FF = 0x00 ∧
      s.cell 0 = 0x10 ∧ s.cell 0xFF40 = 0 := by
  decide +kernel

/-- Log 14: a resumed driver over a faulted machine logs the fault once more and pauses. -/
theorem test_driver_over_faulted_machine :
    let f : Fault := .unknownOpcode 0xD3 0xC000
    let d := executeFrame 60 1 { machine := { fault := some f }, faultLog := [f] }
    d.paused = true ∧ d.faultLog = [f, f] ∧ d.machine = { fault := some f } := by
  decide +kernel

theorem test_post_boot_registers :
    let s := State.boot {} [] none
    s.reg16 .af = 0x01B0 ∧ s.reg16 .bc = 0x0013 ∧ s.reg16 .de = 0x00D8 ∧ s.reg16 .hl = 0x014D ∧ s.sp = 0xFFFE ∧
      s.pc = 0x0100 ∧ s.div = 0xABCC ∧ s.cell 0xFF40 = 0x91 ∧ s.cell 0xFF50 = 0x01 := by
  decide +kernel

/-- The next step after `withFetchWord` runs the table's word: SET 0,B and JP with its operand in the upper bits. -/
theorem test_withFetchWord :
    decodeTableWord 16 0xCBC0 = some .set_0_B ∧ decodeTableWord 8 0xC3 = some (.jp_a16 0) ∧
    shows (step (State.reset.withFetchWord 16 0xCBC0)) (fun t => t.b == 1 && t.pc == 2) = true := by
  decide +kernel

/-! ## Witnesses: a state and operands that meet the hypotheses of each obligation that has some -/

theorem witness_DecimalAdjustCorrectsBcd :
    ({ a := 0x99 } : State).a = bcd 99 ∧ ({ a := 0x00 } : State).a = bcd 0 ∧ 99 < 100 := by
  decide

theorem witness_PushThenPopReturns : ({ sp := 0x8002 } : State).mem.wf = true ∧ ({ sp := 0x8002 } : State).f &&& 0x0F = 0 ∧
    ∀ x ∈ stackSlots { sp := 0x8002 }, 0x8000 ≤ x.toNat ∧ x ≠ 0xFF00 ∧ x ≠ 0xFF01 ∧ x ≠ 0xFF04 ∧ x ≠ 0xFF41 ∧ x ≠ 0xFF46 := by
  refine ⟨rfl, by decide, fun x hx => ?_⟩
  simp only [stackSlots, List.mem_cons, List.not_mem_nil, or_false] at hx
  rcases hx with rfl | rfl <;> decide

theorem witness_PushThenPopReturns_wraps : ({ sp := 0x0000 } : State).mem.wf = true ∧ ({ sp := 0x0000 } : State).f &&& 0x0F = 0 ∧
    ∀ x ∈ stackSlots { sp := 0x0000 }, 0x8000 ≤ x.toNat ∧ x ≠ 0xFF00 ∧ x ≠ 0xFF01 ∧ x ≠ 0xFF04 ∧ x ≠ 0xFF41 ∧ x ≠ 0xFF46 := by
  refine ⟨rfl, by decide, fun x hx => ?_⟩
  simp only [stackSlots, List.mem_cons, List.not_mem_nil, or_false] at hx
  rcases hx with rfl | rfl <;> decide

theorem witness_FaultOnlyFromIllegalByte :
    ((running [0xD3]).fault = none ∧ shows (step (running [0xD3])) (fun t => t.fault.isSome) = true) ∧
    ((running [0x00]).fault = none ∧ shows (step (running [0x00])) (fun t => t.fault.isNone) = true) ∧
    ({ fault := some (.unknownOpcode 0xD3 0) } : State).fault ≠ none := by
  decide +kernel

theorem witness_StepRunsDecodedInstruction :
    (runs (running [0xC3, 0x34, 0x12]) ∧ decodeBytes (fetched (running [0xC3, 0x34, 0x12])) = .ok (.jp_a16 0x1234, [])) ∧
    (runs { running [0x3C] with haltBug := true } ∧
      decodeBytes (fetched { running [0x3C] with haltBug := true }) = .ok (.inc_A, [0x3C, 0x00])) ∧
    runs { running [] with halted := true, mem := [(0xFF0F, 0x04), (0xFFFF, 0x04)] } := by
  refine ⟨⟨?_, rfl⟩, ⟨?_, rfl⟩, ?_⟩ <;> unfold runs <;> decide +kernel

theorem witness_InterruptDispatch : ∀ p ∈ ([(0x1F, 0), (0x1E, 1), (0xFC, 2), (0x18, 3), (0x10, 4)] : List (Byte × Nat)),
    let s : State := { ime := true, mem := [(0xFF0F, p.1), (0xFFFF, 0xFF)] }
    s.fault = none ∧ s.stopped = false ∧ (pending s).getLsbD p.2 = true ∧ ∀ j, j < p.2 → (pending s).getLsbD j = false := by
  decide +kernel

theorem witness_StepsWithoutInstruction :
    (let s : State := { halted := true }; s.fault = none ∧ s.stopped = false ∧ pending s = 0) ∧
    (let s : State := { halted := true, mem := [(0xFF0F, 0x01), (0xFFFF, 0x01)] }
     s.fault = none ∧ s.stopped = false ∧ pending s ≠ 0) ∧
    (let s : State := { stopped := true }; s.fault = none ∧ s.stopped = true) ∧
    ({ fault := some (.unknownOpcode 0xFD 0xFFFF) } : State).fault ≠ none := by
  decide +kernel

theorem witness_EiTakesEffectAfterNextInstruction :
    (let s : State := { running [0x00] with eiPending := true }
     runs s ∧ s.eiPending = true ∧ decodeBytes (fetched s) = .ok (.nop, [0x00, 0x00]) ∧ ∃ t, step s = .next t ∧ t.ime = true) ∧
    (let s : State := { running [0xF3] with eiPending := true }
     runs s ∧ s.eiPending = true ∧ decodeBytes (fetched s) = .ok (.di, [0x00, 0x00]) ∧ ∃ t, step s = .next t ∧ t.ime = false) := by
  refine ⟨⟨by unfold runs; decide +kernel, rfl, rfl, ?_⟩, ⟨by unfold runs; decide +kernel, rfl, rfl, ?_⟩⟩
  · exact next_of_decide (fun t => t.ime = true) (by decide +kernel)
  · exact next_of_decide (fun t => t.ime = false) (by decide +kernel)

/-- Each clause of BusRead at the ends of its range. -/
theorem witness_BusRead :
    (let s : State := { bootRom := some [0x31] }
     s.bootRom = some [0x31] ∧ s.cell 0xFF50 = 0 ∧ readByte s 0x0000 = 0x31 ∧ readByte s 0x00FF = 0 ∧
       readByte { s with mem := [(0x0100, 0x55)] } 0x0100 = 0x55) ∧
    (let s : State := { mbc1 := true, rom := [0x01] }
     s.mbc1 = true ∧ readByte s 0x4000 = 0xFF ∧ readByte s 0x7FFF = 0xFF ∧ readByte s 0x3FFF = 0 ∧ readByte s 0x8000 = 0) ∧
    readByte {} 0xFF00 = 0xCF ∧ readByte { div := 0xAB12 } 0xFF04 = 0xAB ∧
    readByte { mem := [(0x4000, 0x07)] } 0x4000 = 0x07 := by
  decide +kernel

/-- Each clause of BusWrite at the ends of its range. -/
theorem witness_BusWrite :
    (let s : State := { mbc1 := true }
     writeByte 0x1FFF 0x02 s = s ∧ (writeByte 0x2000 0x02 s).romBank = 2 ∧ (writeByte 0x3FFF 0xFF s).romBank = 31 ∧
       writeByte 0x4000 0x02 s = s ∧ writeByte 0x7FFF 0x02 s = s) ∧
    writeByte 0x2000 0x02 ({} : State) = {} ∧
    (writeByte 0x8000 0x02 {}).mem = [(0x8000, 0x02)] ∧ (writeByte 0xFFFF 0x02 {}).mem = [(0xFFFF, 0x02)] ∧
    (writeByte 0xFF41 0xFF { mem := [(0xFF41, 0x85)] }).mem = [(0xFF41, 0xFD)] ∧
    (writeByte 0xFF01 0x41 {}).serialOut = [0x41] ∧ (writeByte 0xFF01 0x00 {}).serialOut = [] := by
  decide +kernel

theorem witness_PlainCellReadback : ({} : State).mem.wf = true ∧
    (0x8000 ≤ (0x8000 : Word).toNat ∧ (0x8000 : Word) ≠ 0xFF00 ∧ (0x8000 : Word) ≠ 0xFF01 ∧
      (0x8000 : Word) ≠ 0xFF04 ∧ (0x8000 : Word) ≠ 0xFF41 ∧ (0x8000 : Word) ≠ 0xFF46) ∧
    (0x8000 ≤ (0xFFFF : Word).toNat ∧ (0xFFFF : Word) ≠ 0xFF00 ∧ (0xFFFF : Word) ≠ 0xFF01 ∧
      (0xFFFF : Word) ≠ 0xFF04 ∧ (0xFFFF : Word) ≠ 0xFF41 ∧ (0xFFFF : Word) ≠ 0xFF46) := by
  decide

theorem witness_OamDmaCopies :
    let s : State := { mem := [(0xC100, 0x5A), (0xC19F, 0x9F), (0xFDFF, 0x11), (0xFEA0, 0x22)] }
    s.mem.wf = true ∧ 0x9F < 0xA0 ∧ (writeByte 0xFF46 0xC1 s).mem.wf = true ∧ (writeByte 0xFF46 0xC1 s).cell 0xFE9F = 0x9F ∧
      (writeByte 0xFF46 0xC1 s).cell 0xFDFF = 0x11 ∧ (writeByte 0xFF46 0xC1 s).cell 0xFEA0 = 0x22 := by
  decide +kernel

theorem witness_TimerTicksAtSelectedRate :
    ∀ p ∈ ([(0x04, 1024), (0x05, 16), (0x06, 64), (0x07, 256)] : List (Byte × Nat)),
      let s : State := { div := BitVec.ofNat 16 (p.2 - 1), mem := [(0xFF05, 0x10), (0xFF07, p.1)] }
      s.mem.wf = true ∧ (timerCycle s).cell 0xFF05 = 0x11 ∧ (timerCycle { s with div := s.div - 1 }).cell 0xFF05 = 0x10 := by
  decide +kernel

theorem witness_PpuPositionAndFrames : ({ dot := 455, line := 153 } : State).dot < 456 ∧
    ({ dot := 455, line := 153 } : State).line < 154 ∧ position (ppuDot { dot := 455, line := 153 }) = 0 := by
  decide +kernel

theorem witness_VerticalBlank : ({ line := 144 } : State).mem.wf = true ∧
    ((ppuDot { line := 144 }).cell 0xFF0F).getLsbD 0 = true ∧ ((ppuDot { line := 144, dot := 1 }).cell 0xFF0F).getLsbD 0 = false := by
  decide +kernel

theorem witness_StatAndItsInterruptLine : ∀ p ∈ ([(0, 79), (0, 80), (143, 251), (143, 252), (144, 0), (153, 455)] : List (Nat × Nat)),
    let s : State := { line := p.1, dot := p.2, mem := [(0xFF41, 0x08)] }
    s.mem.wf = true ∧ s.line < 154 ∧ (ppuDot s).statLine = statSignal s := by
  decide +kernel

theorem witness_BackgroundLineDrawn :
    (let s : State := { line := 143, dot := 80, mem := [(0xFF40, 0x91)] }
     s.framebuffer.wf = true ∧ bitAt s 0xFF40 1 = 0 ∧ s.line < 144 ∧ s.dot = s.cfg.renderDot ∧
       ¬({ s with line := 144 }.line < 144 ∧ s.dot = s.cfg.renderDot) ∧ ¬ windowShown s s.line) ∧
    bitAt { mem := [(0xFF40, 0x13)] } 0xFF40 7 = 0 ∧
    (let s : State := { dot := 80, windowLine := 0xFF, mem := [(0xFF40, 0xF1), (0xFF4B, 166)] }
     s.framebuffer.wf = true ∧ windowShown s s.line ∧ windowAt s 0 159 ∧ ¬ windowAt s 0 158 ∧ (ppuDot s).windowLine = 0 ∧
       ¬ windowShown (s.setCell 0xFF4B 167) s.line ∧ ¬ windowShown (s.setCell 0xFF4A 1) s.line) := by
  decide +kernel

/-- A sprite that covers the left edge over a blank background: it decides column 0; none decides column 8. -/
theorem witness_SpritesDrawnOnLine :
    let s : State := { dot := 80, mem := [(0x8010, 0xFF), (0xFE00, 16), (0xFE01, 8), (0xFE02, 1), (0xFF40, 0x93)] }
    s.framebuffer.wf = true ∧ bitAt s 0xFF40 7 = 1 ∧ bitAt s 0xFF40 1 = 1 ∧ s.line < 144 ∧ s.dot = s.cfg.renderDot ∧
      selectedSprites s s.line = [] ++ ⟨16, 8, 1, 0⟩ :: [] ∧ decides s s.line 0 ⟨16, 8, 1, 0⟩ ∧
      ∀ sp ∈ [(⟨16, 8, 1, 0⟩ : Sprite)], ¬ decides s s.line 8 sp := by
  unfold decides
  decide +kernel

/-- Rows of 95_test_vectors, rendering: "sprite X flip", "8×16 pairing" and "Y flip", by the colour indices of one sprite. -/
theorem test_sprite_flips_and_pairs :
    (List.range 8).map (spriteIndex { mem := [(0x8010, 0xF0)] } ⟨16, 10, 1, 0x20⟩ 0 <| 2 + ·) = [0, 0, 0, 0, 1, 1, 1, 1] ∧
    (let s : State := { mem := [(0x8020, 0xFF), (0x8021, 0xFF), (0x8030, 0xFF), (0xFF40, 0x97)] }
     spriteIndex s ⟨16, 8, 3, 0⟩ 0 0 = 3 ∧ spriteIndex s ⟨16, 8, 3, 0⟩ 8 0 = 1) ∧
    spriteIndex { mem := [(0x801F, 0xFF)] } ⟨16, 8, 1, 0x40⟩ 0 0 = 2 := by
  decide +kernel

theorem witness_SpritePriority :
    let s : State := { mem := [(0x8010, 0xFF)] }
    (∀ sp ∈ [(⟨16, 8, 0, 0⟩ : Sprite)], ¬ decides s 0 0 sp) ∧
    (∀ q ∈ [(⟨16, 8, 0, 0⟩ : Sprite)], ¬ decides s 0 0 q) ∧ decides s 0 0 ⟨16, 8, 1, 0⟩ := by
  unfold decides
  decide +kernel

theorem witness_StoresReachOnlyTheirAddresses :
    (∃ t, exec .push_BC start = .next t) ∧ (∀ x ∈ storedTo .push_BC start, ¬ reaches start x 0xFFFB) ∧
    (∃ t, exec .nop start = .next t) ∧ storedTo .nop start = [] := by
  refine ⟨exec_next _ _, fun x hx => ?_, exec_next _ _, rfl⟩
  have e : storedTo .push_BC start = [0xFFFD, 0xFFFC] := rfl
  simp only [e, List.mem_cons, List.not_mem_nil, or_false] at hx
  unfold reaches
  rcases hx with rfl | rfl <;> decide

theorem witness_InvariantKeptByStep : State.Inv start ∧ ∃ t, step start = .next t ∧ t.pc = 0xC001 :=
  ⟨⟨by decide, by decide, by decide, by decide, by decide, by decide, by decide, by decide, by decide⟩,
    next_of_decide _ (by decide +kernel)⟩

theorem witness_DecodeOfEncodeIsIdentity : (Instr.jp_a16 0xFFFF).wellFormed = true ∧ Instr.daa.wellFormed = true := by decide

theorem witness_CartridgeNeverChanges :
    ∃ t, step { running [0xEA, 0x00, 0x20] with a := 2, rom := [0x00], mbc1 := true } = .next t ∧ t.romBank = 2 :=
  next_of_decide _ (by decide +kernel)

theorem witness_StatBitSevenAndImeWriters :
    (running [0xD9]).mem.wf = true ∧ (running [0xD9]).ime = false ∧
    (∃ t, step (running [0xD9]) = .next t ∧ t.ime = true) ∧ decodeBytes (fetched (running [0xD9])) = .ok (.reti, [0x00, 0x00]) :=
  ⟨by decide +kernel, rfl, next_of_decide _ (by decide +kernel), rfl⟩

end Sys2Proof.Tests
end

/-! SUPPORT. The state: what a step keeps, which instructions write IME, and the register file, flags and reset values. -/

namespace Sys2Proof.Machine
open Sys2Proof.Claims

/-! ## The CPU's control fields -/

/-- The effect leaves IME, the pending EI and `halt_bug` alone (10_state R61). -/
def KeepsControl (eff : State → State) : Prop :=
  ∀ s, (eff s).ime = s.ime ∧ (eff s).eiPending = s.eiPending ∧ (eff s).haltBug = s.haltBug

theorem dst_control (r : R8) (v : Byte) : KeepsControl (dst r v) := by
  intro s
  cases r <;> simp [dst, State.setReg8]

theorem aluA_control (op : AluOp) (operand : State → Byte) : KeepsControl (aluA op operand) := by
  intro s
  cases op <;> exact ⟨rfl, rfl, rfl⟩

theorem incR8_control (r : R8) : KeepsControl (incR8 r) := fun s => dst_control r (src r s + 1) s
theorem decR8_control (r : R8) : KeepsControl (decR8 r) := fun s => dst_control r (src r s - 1) s
theorem rotR8_control (op : RotOp) (x : R8) : KeepsControl (rotR8 op x) :=
  fun s => dst_control x (rot op (src x s) s.flagC).1 s
theorem resR8_control (b : Nat) (x : R8) : KeepsControl (resR8 b x) := fun s => dst_control x _ s
theorem setR8_control (b : Nat) (x : R8) : KeepsControl (setR8 b x) := fun s => dst_control x _ s
theorem loadR8_control (y z : R8) : KeepsControl (loadR8 y z) := fun s => dst_control y _ s
theorem loadImm_control (y : R8) (n : Byte) : KeepsControl (loadImm y n) := dst_control y n
theorem storeA_control (m : Ea) : KeepsControl (storeA m) := fun s => by simp [storeA]
theorem storeAStep_control (d : Word) : KeepsControl (storeAStep d) := fun s => by
  simp [storeAStep, State.setReg16, State.setReg8]
theorem storeSP_control (x : Word) : KeepsControl (storeSP x) := fun s => by simp [storeSP]
theorem pushR16_control (r : Reg16) : KeepsControl (pushR16 r) := fun s => by simp [pushR16]
theorem callTo_control (x : Word) : KeepsControl (callTo x) := fun s => by simp [callTo]

/-- Every shared effect but EI, DI, HALT and RETI leaves the control fields alone. -/
theorem sharedEffect_control {eff : State → State} (h : SharedEffect eff) :
    KeepsControl eff ∨ eff = enableInterrupts ∨ eff = disableInterrupts ∨ eff = haltCpu ∨ eff = returnFromInterrupt := by
  cases h
  case enableInterrupts => exact .inr (.inl rfl)
  case disableInterrupts => exact .inr (.inr (.inl rfl))
  case haltCpu => exact .inr (.inr (.inr (.inl rfl)))
  case returnFromInterrupt => exact .inr (.inr (.inr (.inr rfl)))
  all_goals left
  case aluA op operand => exact aluA_control op operand
  case incR8 r => exact incR8_control r
  case decR8 r => exact decR8_control r
  case rotR8 op x => exact rotR8_control op x
  case resR8 b x => exact resR8_control b x
  case setR8 b x => exact setR8_control b x
  case loadR8 y z => exact loadR8_control y z
  case loadImm y n => exact loadImm_control y n
  case callTo x => exact callTo_control x
  case storeA m => exact storeA_control m
  case storeAStep d => exact storeAStep_control d
  case storeSP x => exact storeSP_control x
  case pushR16 r => exact pushR16_control r
  all_goals exact fun _ => ⟨rfl, rfl, rfl⟩

theorem retire_ime {len cost : Nat} {eff : State → State} {s t : State} (h : retire len cost eff s = .next t)
    (hk : KeepsControl eff) : t.ime = s.ime := by
  cases h
  exact (hk _).1

theorem retireIf_ime {c : State → Bool} {len n y : Nat} {eff : State → State} {s t : State}
    (h : retireIf c len n y eff s = .next t) (hk : KeepsControl eff) : t.ime = s.ime := by
  unfold retireIf at h
  split at h
  · exact retire_ime h hk
  · cases h
    rfl

/-- Every instruction but EI, DI and RETI leaves IME alone (48_cpu_control R403, R404; 45_control_transfer R330). The forms
that write the bus go by their effect's law, since a write's range depends on its address; the rest compute. -/
theorem exec_ime {i : Instr} {s t : State} (h : exec i s = .next t) (hei : i ≠ .ei) (hdi : i ≠ .di) (hreti : i ≠ .reti) :
    t.ime = s.ime := by
  cases i
  case ei => exact absurd rfl hei
  case di => exact absurd rfl hdi
  case reti => exact absurd rfl hreti
  case illegal_D3 | illegal_DB | illegal_DD | illegal_E3 | illegal_E4 | illegal_EB | illegal_EC | illegal_ED | illegal_F4
    | illegal_FC | illegal_FD => cases h; rfl
  case halt =>
    cases h
    unfold haltCpu
    split <;> rfl
  case jr_NZ_e8 | jr_Z_e8 | jr_NC_e8 | jr_C_e8 | jp_NZ_a16 | jp_Z_a16 | jp_NC_a16 | jp_C_a16 | ret_NZ | ret_Z | ret_NC
    | ret_C => exact retireIf_ime h (fun _ => ⟨rfl, rfl, rfl⟩)
  case call_NZ_a16 x | call_Z_a16 x | call_NC_a16 x | call_C_a16 x => exact retireIf_ime h (callTo_control x)
  case call_a16 x => exact retire_ime h (callTo_control x)
  case rst_00H | rst_08H | rst_10H | rst_18H | rst_20H | rst_28H | rst_30H | rst_38H => exact retire_ime h (callTo_control _)
  case push_AF | push_BC | push_DE | push_HL => exact retire_ime h (pushR16_control _)
  case inc_atHL => exact retire_ime h (incR8_control .atHL)
  case dec_atHL => exact retire_ime h (decR8_control .atHL)
  case ld_atHL_B | ld_atHL_C | ld_atHL_D | ld_atHL_E | ld_atHL_H | ld_atHL_L | ld_atHL_A =>
    exact retire_ime h (loadR8_control .atHL _)
  case ld_atHL_d8 n => exact retire_ime h (loadImm_control .atHL n)
  case ld_atBC_A | ld_atDE_A | ld_atA16_A | ldh_atA8_A | ld_atC_A => exact retire_ime h (storeA_control _)
  case ld_atHLinc_A | ld_atHLdec_A => exact retire_ime h (storeAStep_control _)
  case ld_atA16_SP x => exact retire_ime h (storeSP_control x)
  case rlc_atHL | rrc_atHL | rl_atHL | rr_atHL | sla_atHL | sra_atHL | swap_atHL | srl_atHL =>
    exact retire_ime h (rotR8_control _ .atHL)
  case res_0_atHL | res_1_atHL | res_2_atHL | res_3_atHL | res_4_atHL | res_5_atHL | res_6_atHL | res_7_atHL =>
    exact retire_ime h (resR8_control _ .atHL)
  case set_0_atHL | set_1_atHL | set_2_atHL | set_3_atHL | set_4_atHL | set_5_atHL | set_6_atHL | set_7_atHL =>
    exact retire_ime h (setR8_control _ .atHL)
  all_goals exact retire_ime h (fun _ => ⟨rfl, rfl, rfl⟩)

/-- IME rises only by EI or RETI, or by the commit of a pending EI (60_exceptions R503, R512). -/
theorem exec_ime_rises {i : Instr} {s t : State} (h : exec i s = .next t) (hs : s.ime = false) (ht : t.ime = true) :
    i = .ei ∨ i = .reti := by
  by_cases hei : i = .ei
  · exact .inl hei
  by_cases hreti : i = .reti
  · exact .inr hreti
  by_cases hdi : i = .di
  · subst hdi
    cases h
    cases ht
  · rw [exec_ime h hei hdi hreti, hs] at ht
    cases ht

/-- After an instruction, IME is set only if the instruction left it set or an EI was pending before it. -/
theorem finishStep_ime {s u : State} (h : (finishStep s u).ime = true) : u.ime = true ∨ s.eiPending = true := by
  unfold finishStep at h
  split at h
  · exact .inl h
  · rw [advance_ime] at h
    unfold commitEi at h
    split at h
    · next hc => exact .inr hc.1
    · exact .inl h

/-! ## Fetch and decode -/

/-- No instruction is longer than the three bytes a fetch reads (30_encoding R160, R164). -/
theorem opcodeLength_le (op : Byte) : opcodeLength op ≤ 3 := by
  unfold opcodeLength
  split
  · decide
  · cases unprefixedCell op <;> simp [MapCell.length]

/-- The bytes fetched decode to the instruction a step runs, when it is a legal one. -/
theorem decodeBytes_fetched (s : State) (h : (fetch s).wellFormed = true) :
    ∃ rest, decodeBytes (fetched s) = .ok (fetch s, rest) := by
  refine ⟨(fetched s).drop (opcodeLength (readByte s s.pc)), ?_⟩
  have hl : ¬ (fetched s).length < opcodeLength (readByte s s.pc) := Nat.not_lt.2 (opcodeLength_le _)
  exact (if_pos h).trans (if_neg hl)

/-! ## What a step keeps, said once

A property that changes of the CPU's own fields, bus writes, the divider's reset and the device advance all keep is kept by
every step. -/

section
variable (P : State → Prop) (hr : ∀ r t, P t → P (regsOf r t)) (hw : ∀ x v t, P t → P (writeByte x v t))
include hr hw

theorem push16_keeps (v : Word) (s : State) (h : P s) : P (push16 v s) :=
  hw _ _ _ (hw _ _ _ (hr { s with sp := s.sp - 2 } s h))

/-- Taking an interrupt is bus writes, the one to IF among them, and changes of the CPU's own fields (60_exceptions R516). -/
theorem dispatchInterrupt_keeps (s : State) (h : P s) : P (dispatchInterrupt s) :=
  hr (dispatchInterrupt s) _ <| push16_keeps P hr hw _ _ <|
    hr { s with ime := false, eiPending := false, haltBug := false } _ <| hw 0xFF0F _ s h

variable (hd : ∀ t, P t → P { t with div := 0 })
include hd

theorem exec_keeps {i : Instr} {s u : State} (he : exec i s = .next u) (h : P s) : P u := by
  rcases exec_cases i s with ⟨_, len, cost, eff, heff, hi⟩ | ⟨op, _, hi⟩
  · cases hi.symm.trans he
    exact hr (State.charge _ cost) _ (sharedEffect_keeps heff P hr hw hd _ (hr (s.advancePc len) s h))
  · cases hi.symm.trans he
    exact hr (raiseUnknownOpcode op s) s h

variable (ha : ∀ n t, P t → P (advance n t))
include ha

theorem step_keeps {s t : State} (hs : step s = .next t) (h : P s) : P t := by
  have hwake : P { s with halted := false } := hr { s with halted := false } s h
  have hcharge : ∀ n u, P u → P (u.charge n) := fun n u hu => hr (u.charge n) u hu
  rcases step_cases hs with ⟨_, rfl⟩ | ⟨_, _, rfl⟩ | ⟨_, _, _, _, rfl⟩ | ⟨_, _, _, _, rfl⟩ | ⟨_, _, _, _, u, hu, rfl⟩
  · exact h
  · exact hcharge 4 s h
  · exact ha 4 _ (hcharge 4 s h)
  · exact ha 24 _ (hcharge 24 _ (dispatchInterrupt_keeps P hr hw _ hwake))
  · have hu' : P u := exec_keeps P hr hw hd hu hwake
    rcases finishStep_cases { s with halted := false } u with ⟨_, e⟩ | ⟨_, n, e | e⟩
    · rw [e]; exact hu'
    · rw [e]; exact ha n u hu'
    · rw [e]; exact ha n _ (hr { u with ime := true, eiPending := false } u hu')
end

/-! ## STAT bit 7 and the writers of IME -/

/-- Memory is canonical and STAT bit 7 is `b` (10_state R76). -/
def Stat7Is (b : Bool) (s : State) : Prop := s.mem.wf = true ∧ (s.cell 0xFF41).getLsbD 7 = b

theorem step_stat7Is {b : Bool} {s t : State} (hs : step s = .next t) (h : Stat7Is b s) : Stat7Is b t :=
  step_keeps (Stat7Is b) (fun _ _ h => h)
    (fun x v u h => ⟨writeByte_wf x v u h.1, (writeByte_stat7 x v u h.1).trans h.2⟩) (fun _ h => h)
    (fun n u h => ⟨advance_wf n u h.1, (advance_stat7 n u h.1).trans h.2⟩) hs h

/-- A step that sets IME commits a pending EI or runs EI or RETI. -/
theorem step_ime_rises {s t : State} (hs : step s = .next t) (h0 : s.ime = false) (h1 : t.ime = true) :
    s.eiPending = true ∨ fetch s = .ei ∨ fetch s = .reti := by
  rcases step_cases hs with ⟨_, rfl⟩ | ⟨_, _, rfl⟩ | ⟨_, _, _, _, rfl⟩ | ⟨_, _, hi, _, rfl⟩ | ⟨_, _, _, _, u, hu, rfl⟩
  · rw [h0] at h1; cases h1
  · rw [State.charge_ime, h0] at h1; cases h1
  · rw [advance_ime, State.charge_ime, h0] at h1; cases h1
  · rw [h0] at hi; cases hi
  · rcases finishStep_ime h1 with hu1 | hp
    · exact .inr (exec_ime_rises hu h0 hu1)
    · exact .inl hp

/-- Settles O59, by `step_keeps` for STAT and by the cases of a step for IME. -/
theorem statBitSevenAndImeWriters : Obligations.StatBitSevenAndImeWriters := by
  intro s t hm hs
  refine ⟨(step_stat7Is hs ⟨hm, rfl⟩).2, fun h0 h1 => ?_⟩
  rcases step_ime_rises hs h0 h1 with hp | he | he
  · exact .inl hp
  · obtain ⟨rest, hd⟩ := decodeBytes_fetched s (by rw [he]; rfl)
    exact .inr ⟨rest, .inl (by rw [hd, he])⟩
  · obtain ⟨rest, hd⟩ := decodeBytes_fetched s (by rw [he]; rfl)
    exact .inr ⟨rest, .inr (by rw [hd, he])⟩

/-! ## The state invariant -/

/-- The part of `State.Inv` about memory and the devices. -/
structure DeviceInv (s : State) : Prop where
  memory : s.mem.wf = true
  framebuffer : s.framebuffer.wf = true
  presented : s.presented.wf = true
  dot : s.dot < dotsPerLine
  line : s.line < linesPerFrame
  romBank : s.romBank ≠ 0

theorem deviceInv_writeByte (x : Word) (v : Byte) (s : State) (h : DeviceInv s) : DeviceInv (writeByte x v s) where
  memory := writeByte_wf x v s h.memory
  framebuffer := by simpa using h.framebuffer
  presented := by simpa using h.presented
  dot := by simpa using h.dot
  line := by simpa using h.line
  romBank := writeByte_romBank_ne_zero x v s h.romBank

theorem deviceInv_advance (n : Nat) (s : State) (h : DeviceInv s) : DeviceInv (advance n s) where
  memory := advance_wf n s h.memory
  framebuffer := (advance_frames_wf n s h.framebuffer h.presented).1
  presented := (advance_frames_wf n s h.framebuffer h.presented).2
  dot := (advance_dot_line n s h.dot h.line).1
  line := (advance_dot_line n s h.dot h.line).2
  romBank := by simpa using h.romBank

theorem step_deviceInv {s t : State} (hs : step s = .next t) (h : DeviceInv s) : DeviceInv t :=
  step_keeps DeviceInv (fun _ _ ⟨hm, hf, hp, hd, hl, hb⟩ => ⟨hm, hf, hp, hd, hl, hb⟩) deviceInv_writeByte
    (fun _ ⟨hm, hf, hp, hd, hl, hb⟩ => ⟨hm, hf, hp, hd, hl, hb⟩) deviceInv_advance hs h

/-- The part of `State.Inv` about the CPU's own fields. -/
structure CpuInv (s : State) : Prop where
  lowNibble : s.f &&& 0x0F = 0
  eiPending : s.eiPending = true → s.cfg.eiDelay = true
  haltBug : s.haltBug = true → s.cfg.haltBug = true

theorem sharedEffect_cfg {eff : State → State} (h : SharedEffect eff) (s : State) : (eff s).cfg = s.cfg :=
  sharedEffect_keeps h (fun t => t.cfg = s.cfg) (fun _ _ h => h) (fun x v t h => (writeByte_cfg x v t).trans h)
    (fun _ h => h) s rfl

theorem cpuInv_sharedEffect {eff : State → State} (he : SharedEffect eff) {s : State} (h : CpuInv s) : CpuInv (eff s) := by
  have hf := sharedEffect_lowNibble he s h.lowNibble
  rcases sharedEffect_control he with hk | rfl | rfl | rfl | rfl
  · obtain ⟨_, hp, hb⟩ := hk s
    exact ⟨hf, by rw [hp, sharedEffect_cfg he]; exact h.eiPending, by rw [hb, sharedEffect_cfg he]; exact h.haltBug⟩
  · unfold enableInterrupts
    split
    · next hc => exact ⟨h.lowNibble, fun _ => hc, h.haltBug⟩
    · exact ⟨h.lowNibble, h.eiPending, h.haltBug⟩
  · exact ⟨hf, nofun, h.haltBug⟩
  · unfold haltCpu
    split
    · next hc => exact ⟨h.lowNibble, h.eiPending, fun _ => hc.1⟩
    · exact ⟨h.lowNibble, h.eiPending, h.haltBug⟩
  · exact ⟨hf, nofun, h.haltBug⟩

theorem cpuInv_exec {i : Instr} {s u : State} (he : exec i s = .next u) (h : CpuInv s) : CpuInv u := by
  rcases exec_cases i s with ⟨_, len, cost, eff, heff, hi⟩ | ⟨op, _, hi⟩
  · cases hi.symm.trans he
    obtain ⟨hf, hp, hb⟩ := cpuInv_sharedEffect heff (s := s.advancePc len) ⟨h.lowNibble, h.eiPending, nofun⟩
    exact ⟨hf, hp, hb⟩
  · cases hi.symm.trans he
    exact ⟨h.lowNibble, h.eiPending, h.haltBug⟩

theorem cpuInv_advance (n : Nat) {s : State} (h : CpuInv s) : CpuInv (advance n s) where
  lowNibble := by simpa using h.lowNibble
  eiPending := by simpa using h.eiPending
  haltBug := by simpa using h.haltBug

/-- Taking an interrupt clears the pending EI and `halt_bug`. -/
theorem cpuInv_dispatchInterrupt {s : State} (h : CpuInv s) : CpuInv (dispatchInterrupt s) where
  lowNibble := by simpa [dispatchInterrupt] using h.lowNibble
  eiPending := by simp [dispatchInterrupt]
  haltBug := by simp [dispatchInterrupt]

theorem step_cpuInv {s t : State} (hs : step s = .next t) (h : CpuInv s) : CpuInv t := by
  have hwake : CpuInv { s with halted := false } := ⟨h.lowNibble, h.eiPending, h.haltBug⟩
  rcases step_cases hs with ⟨_, rfl⟩ | ⟨_, _, rfl⟩ | ⟨_, _, _, _, rfl⟩ | ⟨_, _, _, _, rfl⟩ | ⟨_, _, _, _, u, hu, rfl⟩
  · exact h
  · exact ⟨h.lowNibble, h.eiPending, h.haltBug⟩
  · exact cpuInv_advance 4 ⟨h.lowNibble, h.eiPending, h.haltBug⟩
  · obtain ⟨hf, hp, hb⟩ := cpuInv_dispatchInterrupt hwake
    exact cpuInv_advance 24 ⟨hf, hp, hb⟩
  · have hu' : CpuInv u := cpuInv_exec hu hwake
    rcases finishStep_cases { s with halted := false } u with ⟨_, e⟩ | ⟨_, n, e | e⟩
    · rw [e]; exact hu'
    · rw [e]; exact cpuInv_advance n hu'
    · rw [e]; exact cpuInv_advance n ⟨hu'.lowNibble, nofun, hu'.haltBug⟩

/-- Settles O54, the device part by `step_keeps` and the CPU part by the cases of a step. -/
theorem invariantKeptByStep : Obligations.InvariantKeptByStep := by
  intro s t ⟨hf, hm, hfb, hp, hd, hl, hb, hei, hhb⟩ hs
  obtain ⟨hm', hfb', hp', hd', hl', hb'⟩ := step_deviceInv hs ⟨hm, hfb, hp, hd, hl, hb⟩
  obtain ⟨hf', hei', hhb'⟩ := step_cpuInv hs ⟨hf, hei, hhb⟩
  exact ⟨hf', hm', hfb', hp', hd', hl', hb', hei', hhb'⟩

/-- Settles O55: reset has no cell set, no line drawn and bank 1. -/
theorem invariantAtReset : Obligations.InvariantAtReset where
  lowNibble := rfl
  memory := rfl
  framebuffer := rfl
  presented := rfl
  dot := by decide
  line := by decide
  romBank := by decide
  eiPending := nofun
  haltBug := nofun

/-! ## Registers, flags and reset values -/

theorem reg8_setReg8 (s : State) (r q : Reg8) (v : Byte) :
    (s.setReg8 r v).reg8 q = if q = r then (if r = .f then v &&& 0xF0 else v) else s.reg8 q := by
  cases r <;> cases q <;> rfl

/-- Settles O1: a read is its slot, a write to a pair two writes of bytes. -/
theorem registerFileAccess : Obligations.RegisterFileAccess := by
  refine ⟨fun s => ⟨rfl, rfl, rfl, rfl, rfl, rfl, rfl, rfl⟩, fun s r q v => ⟨reg8_setReg8 s r q v, ?_, ?_⟩, fun s => ?_,
    fun s v => ?_⟩
  · cases r <;> rfl
  · cases r <;> rfl
  · exact ⟨toNat_append_bytes _ _, toNat_append_bytes _ _, toNat_append_bytes _ _, toNat_append_bytes _ _, rfl, rfl⟩
  · unfold byte
    rw [← hiByte_eq, ← loByte_eq]
    exact ⟨rfl, rfl, rfl, rfl, rfl, rfl⟩

/-- A flag write is a write of all four flags. -/
theorem setFlag_eq_putFlags (s : State) (fl : Flag) (b : Bool) : ∃ z n h c, s.setFlag fl b = s.putFlags z n h c := by
  cases fl <;> exact ⟨_, _, _, _, rfl⟩

theorem getFlag_setFlag (s : State) (fl g : Flag) (v : Bool) :
    (s.setFlag fl v).getFlag g = if g = fl then v else s.getFlag g := by
  cases fl <;> cases g <;> simp [State.setFlag, State.getFlag]

/-- Settles O2: a flag write packs the four flags, three of them as they were. -/
theorem flagBitsAccess : Obligations.FlagBitsAccess := by
  refine ⟨fun s => ⟨rfl, rfl, rfl, rfl⟩, fun s fl g v => ⟨getFlag_setFlag s fl g v, ?_⟩⟩
  obtain ⟨z, n, h, c, e⟩ := setFlag_eq_putFlags s fl v
  rw [e]
  exact ⟨rfl, packFlags_low z n h c⟩

/-- A pixel of a frame with no line drawn is shade 0 (10_state R67, R86). -/
theorem pixel_nil (y x : Nat) : Frame.pixel [] y x = 0 :=
  List.getElem?_getD_replicate_default_eq (0 : Shade) visibleWidth x

/-- Settles O3: every field at its default, memory and frame with nothing listed. -/
theorem resetValues : Obligations.ResetValues := by
  refine ⟨⟨rfl, rfl, rfl, rfl, rfl, rfl, rfl, rfl, rfl, rfl⟩, fun _ => rfl, ⟨rfl, rfl, rfl, rfl, rfl, rfl⟩, ⟨rfl, rfl⟩,
    fun k => ?_, ⟨rfl, rfl, rfl, rfl, rfl⟩, pixel_nil⟩
  cases k <;> rfl

end Sys2Proof.Machine

/-! SUPPORT. Memory: that no step changes the cartridge, the bus range by range, the OAM copy, and the addresses each
instruction stores to. -/

namespace Sys2Proof.Machine
open Sys2Proof.Claims

/-! ## The cartridge and the host's inputs -/

/-- `t` has the images, MBC1 flag, parameters, buttons and cartridge cells of `s` (20_memory R121; 10_state R63, R87). -/
structure SameCartridge (s t : State) : Prop where
  rom : t.rom = s.rom
  bootRom : t.bootRom = s.bootRom
  mbc1 : t.mbc1 = s.mbc1
  cfg : t.cfg = s.cfg
  buttons : t.buttons = s.buttons
  cells : ∀ x, x < 0x8000 → t.cell x = s.cell x

theorem sameCartridge_regsOf {s : State} (r t : State) (h : SameCartridge s t) : SameCartridge s (regsOf r t) :=
  ⟨h.rom, h.bootRom, h.mbc1, h.cfg, h.buttons, h.cells⟩

theorem sameCartridge_writeByte {s : State} (x : Word) (v : Byte) (t : State) (h : SameCartridge s t) :
    SameCartridge s (writeByte x v t) where
  rom := by simpa using h.rom
  bootRom := by simpa using h.bootRom
  mbc1 := by simpa using h.mbc1
  cfg := by simpa using h.cfg
  buttons := by simpa using h.buttons
  cells y hy := (writeByte_cell_rom x v t y hy).trans (h.cells y hy)

/-- The devices write only control registers, all above the cartridge area. -/
theorem sameCartridge_advance {s : State} (n : Nat) (t : State) (h : SameCartridge s t) : SameCartridge s (advance n t) where
  rom := by simpa using h.rom
  bootRom := by simpa using h.bootRom
  mbc1 := by simpa using h.mbc1
  cfg := by simpa using h.cfg
  buttons := by simpa using h.buttons
  cells y hy := (advance_cell n t y (by omega) (by omega) (by omega) (by omega)).trans (h.cells y hy)

/-- Settles O58, by `step_keeps`. -/
theorem cartridgeNeverChanges : Obligations.CartridgeNeverChanges := by
  intro s t hs
  obtain ⟨hr, hb, hm, hc, hk, hx⟩ := step_keeps (SameCartridge s) sameCartridge_regsOf sameCartridge_writeByte
    (fun _ ⟨hr, hb, hm, hc, hk, hx⟩ => ⟨hr, hb, hm, hc, hk, hx⟩) sameCartridge_advance hs
    ⟨rfl, rfl, rfl, rfl, rfl, fun _ _ => rfl⟩
  exact ⟨hr, hb, hm, hc, hk, hx⟩

/-! ## Reads, range by range (20_memory R110) -/

theorem overlayOn_iff (s : State) : overlayOn s = true ↔ s.bootRom ≠ none ∧ s.cell 0xFF50 = 0 := by
  simp [overlayOn, Option.isSome_iff_ne_none]

theorem readByte_overlay {s : State} {x : Word} (hx : x.toNat < 0x100) (ho : overlayOn s = true) :
    readByte s x = bootByte s x := if_pos ⟨hx, ho⟩

theorem readByte_banked {s : State} {x : Word} (hm : s.mbc1 = true) (hl : 0x4000 ≤ x.toNat) (hh : x.toNat ≤ 0x7FFF) :
    readByte s x = bankedRead s x :=
  (if_neg (by omega)).trans (if_pos ⟨hl, hh, hm⟩)

theorem readByte_joypad (s : State) : readByte s 0xFF00 = joypadRead s := rfl

theorem readByte_divider (s : State) : readByte s 0xFF04 = hiByte s.div := rfl

/-- Everywhere else a read gives the cell. -/
theorem readByte_cell {s : State} {x : Word} (ho : ¬(x.toNat < 0x100 ∧ overlayOn s = true))
    (hb : ¬(0x4000 ≤ x.toNat ∧ x.toNat ≤ 0x7FFF ∧ s.mbc1 = true)) (hj : x ≠ 0xFF00) (hd : x ≠ 0xFF04) :
    readByte s x = s.cell x.toNat := by
  have hj' : x.toNat ≠ addrJOYP := fun e => hj (BitVec.eq_of_toNat_eq e)
  have hd' : x.toNat ≠ addrDIV := fun e => hd (BitVec.eq_of_toNat_eq e)
  unfold readByte
  rw [if_neg ho, if_neg hb, if_neg hj', if_neg hd']

/-- From 0x8000 up a read gives the cell, the joypad and the divider apart. -/
theorem readByte_plain {s : State} {x : Word} (hx : 0x8000 ≤ x.toNat) (hj : x ≠ 0xFF00) (hd : x ≠ 0xFF04) :
    readByte s x = s.cell x.toNat :=
  readByte_cell (by omega) (by omega) hj hd

/-- Settles O40, one clause per range. -/
theorem busRead : Obligations.BusRead := by
  intro s x
  refine ⟨fun img hi hc hx => ?_, readByte_banked, ?_, ?_, fun ho hb => readByte_cell ?_ ?_⟩
  · rw [readByte_overlay hx ((overlayOn_iff s).2 ⟨by simp [hi], hc⟩), bootByte, hi]
    rfl
  · rintro rfl
    exact readByte_joypad s
  · rintro rfl
    have := s.div.isLt
    rw [readByte_divider, hiByte_eq, BitVec.toNat_ofNat]
    omega
  · rw [overlayOn_iff]
    rintro ⟨hx, hr, hc⟩
    rcases ho with h | h | h
    · exact hr h
    · exact h hc
    · omega
  · exact fun ⟨hl, hh, hm⟩ => hb ⟨hm, hl, hh⟩

/-! ## Writes, range by range (20_memory R120) -/

/-- The bank register's new value in plain arithmetic (20_memory R122). -/
theorem bankSelect_eq (v : Byte) : bankSelect v = if v.toNat % 32 = 0 then 1 else BitVec.ofNat 5 v.toNat := by
  have hz : BitVec.ofNat 5 v.toNat = 0 ↔ v.toNat % 32 = 0 := by
    simp [← BitVec.toNat_inj]
  have hv : v.extractLsb' 0 5 = BitVec.ofNat 5 v.toNat := rfl
  simp only [bankSelect, hv, hz]

/-- Settles O41, by the law of each range. -/
theorem busWrite : Obligations.BusWrite := by
  intro s x v
  refine ⟨writeByte_cartridge x v s, fun hm hl hh => ?_, writeByte_div v s, writeByte_stat v s, writeByte_serial v s,
    writeByte_dma v s, fun hx hs hd ht hm => writeByte_plain x v s hx hd ht hm hs⟩
  rw [writeByte_bankSelect x v s ⟨hm, hl, hh⟩, bankSelect_eq]

/-! ## Plain cells -/

/-- Settles O42: at a plain address both primitives go to the cell. -/
theorem plainCellReadback : Obligations.PlainCellReadback := by
  intro s x v hm hx hj hs hd ht ho
  refine ⟨?_, fun hb y hy => readByte_writeByte_other x y v s hy (fun e => absurd e ho) (fun e => absurd e hb) (by omega)⟩
  rw [readByte_plain hx hj hd, writeByte_plain x v s hx hd ht ho hs, State.cell_setCell_same s _ v hm]

/-! ## The OAM copy (20_memory R125) -/

/-- The first `n` bytes of the copy. -/
def oamDmaUpTo (v : Byte) (n : Nat) (s : State) : State := (List.range n).foldl (oamDmaByte v) s

theorem oamDma_eq_upTo (v : Byte) (s : State) : oamDma v s = oamDmaUpTo v 0xA0 s := rfl

theorem oamDmaUpTo_succ (v : Byte) (n : Nat) (s : State) :
    oamDmaUpTo v (n + 1) s =
      (oamDmaUpTo v n s).setCell (0xFE00 + n) (readByte (oamDmaUpTo v n s) (v ++ BitVec.ofNat 8 n)) := by
  rw [oamDmaUpTo, List.range_succ, List.foldl_concat]
  rfl

theorem oamDmaUpTo_wf (v : Byte) (n : Nat) (s : State) (hn : n ≤ 0xA0) (h : s.mem.wf = true) :
    (oamDmaUpTo v n s).mem.wf = true := by
  induction n with
  | zero => exact h
  | succ n ih =>
    rw [oamDmaUpTo_succ]
    exact State.setCell_wf _ _ _ (ih (by omega)) (by omega)

/-- The address copied to OAM cell `i` (20_memory R125). -/
theorem dmaSource_eq (v : Byte) {i : Nat} (hi : i < 256) :
    (v ++ BitVec.ofNat 8 i : Word) = BitVec.ofNat 16 (v.toNat * 256 + i) := by
  apply BitVec.eq_of_toNat_eq
  have := v.isLt
  rw [toNat_append_bytes, BitVec.toNat_ofNat, BitVec.toNat_ofNat]
  omega

/-- A raw write to an OAM cell is seen at that address only. -/
theorem readByte_setCell_oam (s : State) (i : Nat) (w : Byte) (x : Word) (hi : i < 0xA0) (hx : x.toNat ≠ 0xFE00 + i) :
    readByte (s.setCell (0xFE00 + i) w) x = readByte s x := by
  have ht : (BitVec.ofNat 16 (0xFE00 + i)).toNat = 0xFE00 + i := Nat.mod_eq_of_lt (by omega)
  have ne : ∀ c : Word, 0xFEA0 ≤ c.toNat → BitVec.ofNat 16 (0xFE00 + i) ≠ c := fun c hc e => by
    rw [← e, ht] at hc
    omega
  have hw : s.setCell (0xFE00 + i) w = writeByte (BitVec.ofNat 16 (0xFE00 + i)) w s := by
    rw [writeByte_plain _ w s (by omega) (ne _ (by decide)) (ne _ (by decide)) (ne _ (by decide)) (ne _ (by decide)), ht]
  rw [hw]
  exact readByte_writeByte_other _ x w s (fun e => hx (e ▸ ht)) (fun e => absurd e (ne _ (by decide)))
    (fun e => absurd e (ne _ (by decide))) (by omega)

/-- A source byte is read as it was before the copy: each byte written lies at the same place in OAM as its source does in
its page, so no source is written before it is read. -/
theorem readByte_oamDmaUpTo_source (v : Byte) (n i : Nat) (s : State) (hn : n ≤ i) (hi : i < 0xA0) :
    readByte (oamDmaUpTo v n s) (v ++ BitVec.ofNat 8 i) = readByte s (v ++ BitVec.ofNat 8 i) := by
  induction n with
  | zero => rfl
  | succ n ih =>
    rw [oamDmaUpTo_succ, readByte_setCell_oam _ _ _ _ (by omega), ih (by omega)]
    rw [toNat_append_bytes, BitVec.toNat_ofNat]
    omega

theorem oamDmaUpTo_cell (v : Byte) (n i : Nat) (s : State) (hn : n ≤ 0xA0) (hi : i < n) (h : s.mem.wf = true) :
    (oamDmaUpTo v n s).cell (0xFE00 + i) = readByte s (v ++ BitVec.ofNat 8 i) := by
  induction n with
  | zero => omega
  | succ n ih =>
    rw [oamDmaUpTo_succ]
    by_cases hin : i = n
    · subst hin
      rw [State.cell_setCell_same _ _ _ (oamDmaUpTo_wf v i s (by omega) h)]
      exact readByte_oamDmaUpTo_source v i i s (le_refl i) hn
    · rw [State.cell_setCell_other _ _ _ _ (by omega)]
      exact ih (by omega) (by omega)

/-- Settles O43, by induction over the bytes copied. -/
theorem oamDmaCopies : Obligations.OamDmaCopies := by
  intro s v hm
  have hd := State.setCell_wf s 0xFF46 v hm (by decide)
  refine ⟨?_, ?_, fun i hi => ?_, fun y hy ho => ?_, writeByte_wf 0xFF46 v s hm⟩
  · obtain ⟨m, e⟩ := oamDma_only v (s.setCell 0xFF46 v)
    rw [writeByte_dma, e]
    rfl
  · rw [writeByte_dma, oamDma_cell_other v _ _ (by decide), State.cell_setCell_same s _ v hm]
  · rw [writeByte_dma, oamDma_eq_upTo, oamDmaUpTo_cell v 0xA0 i _ (le_refl _) hi hd, dmaSource_eq v (by omega)]
    rfl
  · exact writeByte_cell_other 0xFF46 v s y hy (fun _ => by omega)

/-! ## Where instructions store -/

/-- `t` reads as `s` does at `y`, and has the boot image and the MBC1 flag on which the reach of a store depends. -/
structure ReadsSame (s t : State) (y : Word) : Prop where
  bootRom : t.bootRom = s.bootRom
  mbc1 : t.mbc1 = s.mbc1
  read : readByte t y = readByte s y

theorem readsSame_regsOf (s r : State) (y : Word) : ReadsSame s (regsOf r s) y := ⟨rfl, rfl, rfl⟩

/-- A bus write that does not reach an address leaves it reading the same (20_memory R110, R120). -/
theorem readsSame_writeByte {s t : State} {y : Word} (h : ReadsSame s t y) (x : Word) (v : Byte) (hx : ¬ reaches s x y) :
    ReadsSame s (writeByte x v t) y := by
  simp only [reaches, not_or] at hx
  obtain ⟨hself, hdma, hboot, hbank⟩ := hx
  refine ⟨by simpa using h.bootRom, by simpa using h.mbc1, Eq.trans ?_ h.read⟩
  refine readByte_writeByte_other x y v t hself (fun e hl => ?_) (fun e hl => ?_) (fun hm h1 h2 h3 => ?_)
  · exact Nat.lt_of_not_le fun hh => hdma ⟨e, hl, hh⟩
  · rw [h.bootRom]
    exact not_not.1 fun hn => hboot ⟨e, hl, hn⟩
  · exact Nat.lt_of_not_le fun h4 => hbank ⟨h.mbc1 ▸ hm, h1, h2, h3, h4⟩

/-- The effect changes what a read gives only where a store to the addresses `xs` reaches. -/
def StoresOnly (xs : State → List Word) (eff : State → State) : Prop :=
  ∀ (s : State) (y : Word), (∀ x ∈ xs s, ¬ reaches s x y) → readByte (eff s) y = readByte s y

/-- The effect changes no read: it neither writes the bus nor resets the divider. -/
def StoresNothing (eff : State → State) : Prop := ∀ (s : State) (y : Word), readByte (eff s) y = readByte s y

theorem dst_atHL_stores (v : State → Byte) : StoresOnly (fun s => [hl s]) (fun s => dst .atHL (v s) s) := fun s y h =>
  (readsSame_writeByte (readsSame_regsOf s s y) (hl s) (v s) (h _ (by simp))).read

theorem incR8_atHL_stores : StoresOnly (fun s => [hl s]) (incR8 .atHL) := dst_atHL_stores fun s => src .atHL s + 1
theorem decR8_atHL_stores : StoresOnly (fun s => [hl s]) (decR8 .atHL) := dst_atHL_stores fun s => src .atHL s - 1
theorem rotR8_atHL_stores (op : RotOp) : StoresOnly (fun s => [hl s]) (rotR8 op .atHL) :=
  dst_atHL_stores fun s => (rot op (src .atHL s) s.flagC).1
theorem resR8_atHL_stores (b : Nat) : StoresOnly (fun s => [hl s]) (resR8 b .atHL) :=
  dst_atHL_stores fun s => src .atHL s &&& ~~~(bitMask b)
theorem setR8_atHL_stores (b : Nat) : StoresOnly (fun s => [hl s]) (setR8 b .atHL) :=
  dst_atHL_stores fun s => src .atHL s ||| bitMask b
theorem loadR8_atHL_stores (z : R8) : StoresOnly (fun s => [hl s]) (loadR8 .atHL z) := dst_atHL_stores (src z)
theorem loadImm_atHL_stores (n : Byte) : StoresOnly (fun s => [hl s]) (loadImm .atHL n) := dst_atHL_stores fun _ => n
theorem storeAStep_stores (d : Word) : StoresOnly (fun s => [hl s]) (storeAStep d) := dst_atHL_stores State.a

theorem storeA_stores (m : Ea) : StoresOnly (fun s => [ea m s]) (storeA m) := fun s y h =>
  (readsSame_writeByte (readsSame_regsOf s s y) (ea m s) s.a (h _ (by simp))).read

/-- The addresses of a page mode, as 46_loads writes them. -/
theorem page_eq (n : Byte) : ((0xFF : Byte) ++ n : Word) = 0xFF00 + n.setWidth 16 := by
  apply BitVec.eq_of_toNat_eq
  rw [toNat_append_bytes]
  bv_omega

theorem storeSP_stores (x : Word) : StoresOnly (fun _ => [x, x + 1]) (storeSP x) := fun s y h =>
  (readsSame_writeByte (readsSame_writeByte (readsSame_regsOf s s y) x (loByte s.sp) (h _ (by simp)))
    (x + 1) (hiByte s.sp) (h _ (by simp))).read

theorem push16_stores (v : State → Word) : StoresOnly stackSlots (fun s => push16 (v s) s) := fun s y h => by
  have hhi : s.sp - 2 + 1 = s.sp - 1 := by bv_omega
  have h1 := readsSame_writeByte (readsSame_regsOf s { s with sp := s.sp - 2 } y) (s.sp - 2 + 1) (hiByte (v s))
    (h _ (hhi ▸ by simp [stackSlots]))
  exact (readsSame_writeByte h1 (s.sp - 2) (loByte (v s)) (h _ (by simp [stackSlots]))).read

theorem pushR16_stores (r : Reg16) : StoresOnly stackSlots (pushR16 r) := push16_stores fun s => s.reg16 r
theorem callTo_stores (x : Word) : StoresOnly stackSlots (callTo x) := push16_stores State.pc

theorem enableInterrupts_storesNothing : StoresNothing enableInterrupts := fun s y => by
  unfold enableInterrupts
  split <;> rfl

theorem haltCpu_storesNothing : StoresNothing haltCpu := fun s y => by
  unfold haltCpu
  split <;> rfl

@[simp] theorem readByte_setReg16 (s : State) (r : Reg16) (v : Word) (y : Word) :
    readByte (s.setReg16 r v) y = readByte s y := by
  cases r <;> rfl

theorem popR16_storesNothing (r : Reg16) : StoresNothing (popR16 r) := fun s => readByte_setReg16 (dropTop s) r (stackTop s)
theorem loadR16_storesNothing (r : Reg16) (n : Word) : StoresNothing (loadR16 r n) := fun s => readByte_setReg16 s r n
theorem incR16_storesNothing (r : Reg16) : StoresNothing (incR16 r) := fun s => readByte_setReg16 s r _
theorem decR16_storesNothing (r : Reg16) : StoresNothing (decR16 r) := fun s => readByte_setReg16 s r _
theorem addHL_storesNothing (r : Reg16) : StoresNothing (addHL r) := fun s =>
  readByte_setReg16 s .hl (s.reg16 .hl + s.reg16 r)
theorem spPlus_storesNothing (r : Reg16) (n : Byte) : StoresNothing (spPlus r n) := fun s =>
  readByte_setReg16 s r (addSigned8 s.sp n)
theorem loadAStep_storesNothing (d : Word) : StoresNothing (loadAStep d) := fun s =>
  readByte_setReg16 { s with a := readByte s (s.reg16 .hl) } .hl _

/-- STOP resets the divider, which is read at 0xFF04 only (48_cpu_control R406). -/
theorem stopCpu_stores : StoresOnly (fun _ => [0xFF04]) stopCpu := fun s y h =>
  (readsSame_writeByte (readsSame_regsOf s s y) 0xFF04 0 (h _ (by simp))).read

section
variable {s t : State} {y : Word} {len cost n : Nat} {eff : State → State} {xs : State → List Word}

/-- The PC advance and the charge around an effect change no read. -/
theorem retire_reads (h : retire len cost eff s = .next t) (he : StoresOnly xs eff)
    (hy : ∀ x ∈ xs (s.advancePc len), ¬ reaches s x y) : readByte t y = readByte s y := by
  cases h
  exact he (s.advancePc len) y hy

theorem retireIf_reads {c : State → Bool} (h : retireIf c len n cost eff s = .next t) (he : StoresOnly xs eff)
    (hy : c s = true → ∀ x ∈ xs (s.advancePc len), ¬ reaches s x y) : readByte t y = readByte s y := by
  unfold retireIf at h
  split at h
  · next hc => exact retire_reads h he (hy hc)
  · cases h
    rfl

theorem retire_reads_all (h : retire len cost eff s = .next t) (he : StoresNothing eff) : readByte t y = readByte s y := by
  cases h
  exact he (s.advancePc len) y

theorem retireIf_reads_all {c : State → Bool} (h : retireIf c len n cost eff s = .next t) (he : StoresNothing eff) :
    readByte t y = readByte s y :=
  retireIf_reads (xs := fun _ => []) h (fun s y _ => he s y) (fun _ _ hx => nomatch hx)

end

/-! A conditional call stores exactly when its condition holds (45_control_transfer R327). -/

theorem storedTo_call_NZ {s : State} (x : Word) (h : condHolds .nz s = true) :
    storedTo (.call_NZ_a16 x) s = stackSlots s :=
  if_neg (c := s.flagZ = true) (by simpa [condHolds] using h)
theorem storedTo_call_Z {s : State} (x : Word) (h : condHolds .z s = true) :
    storedTo (.call_Z_a16 x) s = stackSlots s := if_pos h
theorem storedTo_call_NC {s : State} (x : Word) (h : condHolds .nc s = true) :
    storedTo (.call_NC_a16 x) s = stackSlots s :=
  if_neg (c := s.flagC = true) (by simpa [condHolds] using h)
theorem storedTo_call_C {s : State} (x : Word) (h : condHolds .c s = true) :
    storedTo (.call_C_a16 x) s = stackSlots s := if_pos h

/-- The forms that store go by their effect's law, and so do those whose effect is over a register pair or has a branch; the
rest compute. -/
theorem exec_reads {i : Instr} {s t : State} {y : Word} (h : exec i s = .next t) (hy : ∀ x ∈ storedTo i s, ¬ reaches s x y) :
    readByte t y = readByte s y := by
  cases i
  case inc_atHL => exact retire_reads h incR8_atHL_stores hy
  case dec_atHL => exact retire_reads h decR8_atHL_stores hy
  case ld_atHL_B | ld_atHL_C | ld_atHL_D | ld_atHL_E | ld_atHL_H | ld_atHL_L | ld_atHL_A =>
    exact retire_reads h (loadR8_atHL_stores _) hy
  case ld_atHL_d8 n => exact retire_reads h (loadImm_atHL_stores n) hy
  case ld_atHLinc_A | ld_atHLdec_A => exact retire_reads h (storeAStep_stores _) hy
  case rlc_atHL | rrc_atHL | rl_atHL | rr_atHL | sla_atHL | sra_atHL | swap_atHL | srl_atHL =>
    exact retire_reads h (rotR8_atHL_stores _) hy
  case res_0_atHL | res_1_atHL | res_2_atHL | res_3_atHL | res_4_atHL | res_5_atHL | res_6_atHL | res_7_atHL =>
    exact retire_reads h (resR8_atHL_stores _) hy
  case set_0_atHL | set_1_atHL | set_2_atHL | set_3_atHL | set_4_atHL | set_5_atHL | set_6_atHL | set_7_atHL =>
    exact retire_reads h (setR8_atHL_stores _) hy
  case ld_atBC_A | ld_atDE_A | ld_atA16_A => exact retire_reads h (storeA_stores _) hy
  case ldh_atA8_A | ld_atC_A =>
    refine retire_reads h (storeA_stores _) fun x hx => hy x ?_
    rwa [ea, page_eq] at hx
  case ld_atA16_SP x => exact retire_reads h (storeSP_stores x) hy
  case push_AF | push_BC | push_DE | push_HL => exact retire_reads h (pushR16_stores _) hy
  case rst_00H | rst_08H | rst_10H | rst_18H | rst_20H | rst_28H | rst_30H | rst_38H =>
    exact retire_reads h (callTo_stores _) hy
  case call_a16 x => exact retire_reads h (callTo_stores x) hy
  case call_NZ_a16 x => exact retireIf_reads h (callTo_stores x) (fun hc => by rwa [storedTo_call_NZ x hc] at hy)
  case call_Z_a16 x => exact retireIf_reads h (callTo_stores x) (fun hc => by rwa [storedTo_call_Z x hc] at hy)
  case call_NC_a16 x => exact retireIf_reads h (callTo_stores x) (fun hc => by rwa [storedTo_call_NC x hc] at hy)
  case call_C_a16 x => exact retireIf_reads h (callTo_stores x) (fun hc => by rwa [storedTo_call_C x hc] at hy)
  case stop n => exact retire_reads h stopCpu_stores hy
  case ei => exact retire_reads_all h enableInterrupts_storesNothing
  case halt => exact retire_reads_all h haltCpu_storesNothing
  case pop_AF | pop_BC | pop_DE | pop_HL => exact retire_reads_all h (popR16_storesNothing _)
  case ld_BC_d16 n | ld_DE_d16 n | ld_HL_d16 n | ld_SP_d16 n => exact retire_reads_all h (loadR16_storesNothing _ n)
  case inc_BC | inc_DE | inc_HL | inc_SP => exact retire_reads_all h (incR16_storesNothing _)
  case dec_BC | dec_DE | dec_HL | dec_SP => exact retire_reads_all h (decR16_storesNothing _)
  case add_HL_BC | add_HL_DE | add_HL_HL | add_HL_SP => exact retire_reads_all h (addHL_storesNothing _)
  case add_SP_e8 n | ld_HL_SPe8 n => exact retire_reads_all h (spPlus_storesNothing _ n)
  case ld_A_atHLinc | ld_A_atHLdec => exact retire_reads_all h (loadAStep_storesNothing _)
  case jr_NZ_e8 | jr_Z_e8 | jr_NC_e8 | jr_C_e8 | jp_NZ_a16 | jp_Z_a16 | jp_NC_a16 | jp_C_a16 | ret_NZ | ret_Z | ret_NC
    | ret_C => exact retireIf_reads_all h (fun _ _ => rfl)
  case illegal_D3 | illegal_DB | illegal_DD | illegal_E3 | illegal_E4 | illegal_EB | illegal_EC | illegal_ED | illegal_F4
    | illegal_FC | illegal_FD => cases h; rfl
  all_goals exact retire_reads_all h (fun _ _ => rfl)

/-- Settles O53, by the stores of each instruction's effect. -/
theorem storesReachOnlyTheirAddresses : Obligations.StoresReachOnlyTheirAddresses := fun _ _ _ _ => exec_reads

end Sys2Proof.Machine

/-! SUPPORT. Encoding: the round trip of every instruction, the illegal bytes, and words written out from the spec. -/

namespace Sys2Proof.Laws.RoundTrip

/-! ## The round trip (30_encoding R150 to R165) -/

/-- By the four forms of 30_encoding R151: an opcode with two bytes after it, with one, after 0xCB, and alone. -/
theorem statement_all (i : Instr) : Statement i := by
  cases i
  case ld_BC_d16 w | ld_atA16_SP w | ld_DE_d16 w | ld_HL_d16 w | ld_SP_d16 w | jp_NZ_a16 w | jp_a16 w | call_NZ_a16 w
    | jp_Z_a16 w | call_Z_a16 w | call_a16 w | jp_NC_a16 w | call_NC_a16 w | jp_C_a16 w | call_C_a16 w | ld_atA16_A w
    | ld_A_atA16 w =>
    exact of_three _ w rfl (fun _ _ => rfl) rfl
  case ld_B_d8 n | ld_C_d8 n | stop n | ld_D_d8 n | jr_e8 n | ld_E_d8 n | jr_NZ_e8 n | ld_H_d8 n | jr_Z_e8 n
    | ld_L_d8 n | jr_NC_e8 n | ld_atHL_d8 n | jr_C_e8 n | ld_A_d8 n | add_A_d8 n | adc_A_d8 n | sub_d8 n | sbc_A_d8 n
    | ldh_atA8_A n | and_d8 n | add_SP_e8 n | xor_d8 n | ldh_A_atA8 n | or_d8 n | ld_HL_SPe8 n | cp_d8 n =>
    exact of_two _ n rfl (fun _ => rfl) rfl
  case rlc_B | rlc_C | rlc_D | rlc_E | rlc_H | rlc_L | rlc_atHL | rlc_A | rrc_B | rrc_C | rrc_D | rrc_E | rrc_H | rrc_L
    | rrc_atHL | rrc_A | rl_B | rl_C | rl_D | rl_E | rl_H | rl_L | rl_atHL | rl_A | rr_B | rr_C | rr_D | rr_E | rr_H
    | rr_L | rr_atHL | rr_A | sla_B | sla_C | sla_D | sla_E | sla_H | sla_L | sla_atHL | sla_A | sra_B | sra_C | sra_D
    | sra_E | sra_H | sra_L | sra_atHL | sra_A | swap_B | swap_C | swap_D | swap_E | swap_H | swap_L | swap_atHL
    | swap_A | srl_B | srl_C | srl_D | srl_E | srl_H | srl_L | srl_atHL | srl_A
    | bit_0_B | bit_0_C | bit_0_D | bit_0_E | bit_0_H | bit_0_L | bit_0_atHL | bit_0_A | bit_1_B | bit_1_C | bit_1_D
    | bit_1_E | bit_1_H | bit_1_L | bit_1_atHL | bit_1_A | bit_2_B | bit_2_C | bit_2_D | bit_2_E | bit_2_H | bit_2_L
    | bit_2_atHL | bit_2_A | bit_3_B | bit_3_C | bit_3_D | bit_3_E | bit_3_H | bit_3_L | bit_3_atHL | bit_3_A
    | bit_4_B | bit_4_C | bit_4_D | bit_4_E | bit_4_H | bit_4_L | bit_4_atHL | bit_4_A | bit_5_B | bit_5_C | bit_5_D
    | bit_5_E | bit_5_H | bit_5_L | bit_5_atHL | bit_5_A | bit_6_B | bit_6_C | bit_6_D | bit_6_E | bit_6_H | bit_6_L
    | bit_6_atHL | bit_6_A | bit_7_B | bit_7_C | bit_7_D | bit_7_E | bit_7_H | bit_7_L | bit_7_atHL | bit_7_A
    | res_0_B | res_0_C | res_0_D | res_0_E | res_0_H | res_0_L | res_0_atHL | res_0_A | res_1_B | res_1_C | res_1_D
    | res_1_E | res_1_H | res_1_L | res_1_atHL | res_1_A | res_2_B | res_2_C | res_2_D | res_2_E | res_2_H | res_2_L
    | res_2_atHL | res_2_A | res_3_B | res_3_C | res_3_D | res_3_E | res_3_H | res_3_L | res_3_atHL | res_3_A
    | res_4_B | res_4_C | res_4_D | res_4_E | res_4_H | res_4_L | res_4_atHL | res_4_A | res_5_B | res_5_C | res_5_D
    | res_5_E | res_5_H | res_5_L | res_5_atHL | res_5_A | res_6_B | res_6_C | res_6_D | res_6_E | res_6_H | res_6_L
    | res_6_atHL | res_6_A | res_7_B | res_7_C | res_7_D | res_7_E | res_7_H | res_7_L | res_7_atHL | res_7_A
    | set_0_B | set_0_C | set_0_D | set_0_E | set_0_H | set_0_L | set_0_atHL | set_0_A | set_1_B | set_1_C | set_1_D
    | set_1_E | set_1_H | set_1_L | set_1_atHL | set_1_A | set_2_B | set_2_C | set_2_D | set_2_E | set_2_H | set_2_L
    | set_2_atHL | set_2_A | set_3_B | set_3_C | set_3_D | set_3_E | set_3_H | set_3_L | set_3_atHL | set_3_A
    | set_4_B | set_4_C | set_4_D | set_4_E | set_4_H | set_4_L | set_4_atHL | set_4_A | set_5_B | set_5_C | set_5_D
    | set_5_E | set_5_H | set_5_L | set_5_atHL | set_5_A | set_6_B | set_6_C | set_6_D | set_6_E | set_6_H | set_6_L
    | set_6_atHL | set_6_A | set_7_B | set_7_C | set_7_D | set_7_E | set_7_H | set_7_L | set_7_atHL | set_7_A =>
    exact of_two 0xCB _ rfl (fun _ => rfl) rfl
  all_goals exact of_one _ rfl (fun _ _ => rfl) rfl

theorem opcodeLength_pos (op : Byte) : 0 < opcodeLength op := by
  unfold opcodeLength
  split
  · decide
  · cases unprefixedCell op <;> simp [MapCell.length]

/-- An opcode and its operand bytes decode whatever follows them, if they are as many as the opcode takes. -/
theorem decodeBytes_cons_append {i : Instr} {op : Byte} {tl rest : List Byte} (hw : i.wellFormed = true)
    (hd : decode3 op ((tl ++ rest).getD 0 0) ((tl ++ rest).getD 1 0) = i) (hl : opcodeLength op = (op :: tl).length) :
    decodeBytes ((op :: tl) ++ rest) = .ok (i, rest) := by
  have hlen : ¬ ((op :: tl) ++ rest).length < opcodeLength op := by simp [hl]
  have hdrop : ((op :: tl) ++ rest).drop (opcodeLength op) = rest := List.drop_left' hl.symm
  subst hd
  exact (if_pos hw).trans ((if_neg hlen).trans (congrArg (fun bs => Except.ok (_, bs)) hdrop))

/-- An encoding has one to three bytes; where it has fewer than three, the decoder sees bytes of `rest`. -/
theorem Statement.decodeBytes_append {i : Instr} (h : Statement i) (hw : i.wellFormed = true) (rest : List Byte) :
    decodeBytes (encode i ++ rest) = .ok (i, rest) := by
  unfold Statement at h
  match encode i, h with
  | [], h => exact absurd (h 0 0).2 (opcodeLength_pos 0).ne'
  | [_], h =>
    obtain ⟨hd, hl⟩ := h (rest.getD 0 0) (rest.getD 1 0)
    exact decodeBytes_cons_append hw hd hl
  | [_, _], h =>
    obtain ⟨hd, hl⟩ := h 0 (rest.getD 0 0)
    exact decodeBytes_cons_append hw hd hl
  | [_, _, _], h =>
    obtain ⟨hd, hl⟩ := h 0 0
    exact decodeBytes_cons_append hw hd hl
  | op :: _ :: _ :: _ :: tl, h =>
    have hl : opcodeLength op = tl.length + 4 := (h 0 0).2
    have hle := Machine.opcodeLength_le op
    omega

/-- Settles O56, by the form of each encoding and its number of bytes. -/
theorem decodeOfEncodeIsIdentity : Obligations.DecodeOfEncodeIsIdentity :=
  fun i rest hw => (statement_all i).decodeBytes_append hw rest

end Sys2Proof.Laws.RoundTrip

namespace Sys2Proof.Machine
open Sys2Proof.Claims

/-! ## The illegal bytes (30_encoding R162) -/

/-- The table pairs each illegal constructor with its byte, which is its whole encoding. -/
theorem illegalForms_byte : ∀ p ∈ illegalForms, p.1.illegalByte = some p.2 ∧ encode p.1 = [p.2] := by decide

theorem illegalBytes_eq_map : illegalBytes = illegalForms.map Prod.snd := rfl

theorem wellFormed_of_illegalByte {i : Instr} {op : Byte} (h : i.illegalByte = some op) : i.wellFormed = false := by
  rw [Instr.wellFormed, h, Option.isNone_some]

/-- An illegal byte, as an instruction, is the decode fault (60_exceptions R540). -/
theorem exec_of_illegalByte {i : Instr} {op : Byte} (h : i.illegalByte = some op) (s : State) :
    exec i s = raiseIllegal op s := by
  rcases exec_cases i s with ⟨hw, _⟩ | ⟨op', h', he⟩
  · rw [wellFormed_of_illegalByte h] at hw
    cases hw
  · cases h.symm.trans h'
    exact he

/-- A one-byte encoding decodes by its opcode alone. -/
theorem decode3_of_encode {i : Instr} {op : Byte} (h : encode i = [op]) (x y : Byte) : decode3 op x y = i := by
  have hd := (Laws.RoundTrip.statement_all i x y).1
  rwa [h] at hd

/-- Settles O33, from the table of the illegal forms. -/
theorem illegalBytesFault : Obligations.IllegalBytesFault := by
  intro s
  refine ⟨fun p hp => ?_, fun b hb => ?_⟩
  · obtain ⟨hbyte, henc⟩ := illegalForms_byte p hp
    exact ⟨illegalBytes_eq_map ▸ List.mem_map_of_mem hp, decode3_of_encode henc, wellFormed_of_illegalByte hbyte,
      exec_of_illegalByte hbyte s⟩
  · obtain ⟨⟨i, _⟩, hp, rfl⟩ := List.mem_map.1 (illegalBytes_eq_map ▸ hb)
    exact ⟨i, hp⟩

/-! ## Words of the spec -/

/-- Settles O57, by evaluating the decoder on each word. -/
theorem decodedWords : Obligations.DecodedWords :=
  ⟨rfl, rfl, rfl, rfl, rfl, rfl, rfl, rfl, rfl, rfl, rfl, rfl, rfl, rfl, rfl⟩

end Sys2Proof.Machine

/-! SUPPORT. 8-bit arithmetic and logic: the model's adders, effects and DAA in the plain arithmetic of the statements, and DAA
after a sum or a difference of two-digit numbers. -/

namespace Sys2Proof.Machine
open Sys2Proof.Claims

/-! ## Bytes and flags -/

@[simp] theorem toNat_byte (n : Nat) : (byte n).toNat = n % 256 := BitVec.toNat_ofNat n 8

theorem byte_eq_byte_iff {m n : Nat} : byte m = byte n ↔ m % 256 = n % 256 := by
  rw [← BitVec.toNat_inj, toNat_byte, toNat_byte]

theorem byte_beq_zero (n : Nat) : (byte n == 0) = decide (n % 256 = 0) :=
  decide_eq_decide.2 byte_eq_byte_iff

/-- An integer and a number equal modulo 256 narrow to the same byte. -/
theorem ofInt_eq_byte {i : Int} {n : Nat} (h : i % 256 = n % 256) : BitVec.ofInt 8 i = byte n := by
  apply BitVec.eq_of_toNat_eq
  rw [BitVec.toNat_ofInt, toNat_byte]
  omega

theorem packFlags_eq_flags (z n h c : Bool) : packFlags z n h c = flags z n h c := packFlags_eq z n h c

/-! ## The adders (41_alu8 R200) -/

theorem add8_eq (a x : Byte) (c : Bool) : add8 a x c =
    { value := byte (a.toNat + x.toNat + c.toNat), zero := decide ((a.toNat + x.toNat + c.toNat) % 256 = 0)
      half := decide (15 < a.toNat % 16 + x.toNat % 16 + c.toNat), carry := decide (255 < a.toNat + x.toNat + c.toNat) } := by
  rw [← byte_beq_zero]
  rfl

theorem sub8_value_eq (a x : Byte) (c : Bool) : (sub8 a x c).value = byte (a.toNat + 512 - x.toNat - c.toNat) := by
  have := x.isLt
  have := c.toNat_le
  refine ofInt_eq_byte ?_
  omega

theorem sub8_eq (a x : Byte) (c : Bool) : sub8 a x c =
    { value := byte (a.toNat + 512 - x.toNat - c.toNat), zero := decide (a.toNat = (x.toNat + c.toNat) % 256)
      half := decide (a.toNat % 16 < x.toNat % 16 + c.toNat), carry := decide (a.toNat < x.toNat + c.toNat) } := by
  have hzero : (byte (a.toNat + 512 - x.toNat - c.toNat) == 0) = decide (a.toNat = (x.toNat + c.toNat) % 256) := by
    have := a.isLt
    have := x.isLt
    have := c.toNat_le
    rw [byte_beq_zero, decide_eq_decide]
    omega
  have hhalf : decide ((nibble a : Int) - nibble x - c.toNat < 0) = decide (a.toNat % 16 < x.toNat % 16 + c.toNat) := by
    rw [decide_eq_decide, nibble, nibble]
    omega
  have hcarry : decide ((a.toNat : Int) - x.toNat - c.toNat < 0) = decide (a.toNat < x.toNat + c.toNat) := by
    rw [decide_eq_decide]
    omega
  rw [← hzero, ← hhalf, ← hcarry, ← sub8_value_eq]
  rfl

/-! ## The operations on A (41_alu8 R201 to R224) -/

section
variable (v : Byte) (s : State)

theorem aluA_add : aluA .add (immediate v) s = sum v 0 s := by
  simp only [aluA, add8_eq, State.putFlags, packFlags_eq_flags]
  rfl

theorem aluA_adc : aluA .adc (immediate v) s = sum v s.flagC.toNat s := by
  simp only [aluA, add8_eq, State.putFlags, packFlags_eq_flags]
  rfl

theorem aluA_sub : aluA .sub (immediate v) s = difference v 0 s := by
  simp only [aluA, sub8_eq, State.putFlags, packFlags_eq_flags]
  rfl

theorem aluA_sbc : aluA .sbc (immediate v) s = difference v s.flagC.toNat s := by
  simp only [aluA, sub8_eq, State.putFlags, packFlags_eq_flags]
  rfl

theorem aluA_cp : aluA .cp (immediate v) s = { s with f := differenceFlags v 0 s } := by
  simp only [aluA, sub8_eq, State.putFlags, packFlags_eq_flags]
  rfl

theorem putLogic_eq (half : Bool) : putLogic v half s = logic v half s := by
  simp only [putLogic, State.putFlags, packFlags_eq_flags]
  rfl

theorem aluA_and : aluA .and (immediate v) s = logic (s.a &&& v) true s := putLogic_eq _ s true
theorem aluA_xor : aluA .xor (immediate v) s = logic (s.a ^^^ v) false s := putLogic_eq _ s false
theorem aluA_or : aluA .or (immediate v) s = logic (s.a ||| v) false s := putLogic_eq _ s false

end

/-! ## The operations retired: PC advanced before, the cost charged after (30_encoding R160) -/

section
variable {y : State → Byte} {v : Byte} {len cost : Nat} {s : State} (hy : y (s.advancePc len) = v)
include hy

/-- The operand has the value `v` after the advance; neither the advance nor the cost changes what the operation computes. -/
theorem retire_aluA (op : AluOp) :
    retire len cost (aluA op y) s = .next (aluA op (immediate v) (after len cost s)) := by
  subst hy
  cases op <;> rfl

theorem retire_add : retire len cost (aluA .add y) s = .next (sum v 0 (after len cost s)) :=
  (retire_aluA hy .add).trans (congrArg Host.Outcome.next (aluA_add v _))

theorem retire_adc : retire len cost (aluA .adc y) s = .next (sum v s.flagC.toNat (after len cost s)) :=
  (retire_aluA hy .adc).trans (congrArg Host.Outcome.next (aluA_adc v _))

theorem retire_sub : retire len cost (aluA .sub y) s = .next (difference v 0 (after len cost s)) :=
  (retire_aluA hy .sub).trans (congrArg Host.Outcome.next (aluA_sub v _))

theorem retire_sbc : retire len cost (aluA .sbc y) s = .next (difference v s.flagC.toNat (after len cost s)) :=
  (retire_aluA hy .sbc).trans (congrArg Host.Outcome.next (aluA_sbc v _))

theorem retire_and : retire len cost (aluA .and y) s = .next (logic (s.a &&& v) true (after len cost s)) :=
  (retire_aluA hy .and).trans (congrArg Host.Outcome.next (aluA_and v _))

theorem retire_xor : retire len cost (aluA .xor y) s = .next (logic (s.a ^^^ v) false (after len cost s)) :=
  (retire_aluA hy .xor).trans (congrArg Host.Outcome.next (aluA_xor v _))

theorem retire_or : retire len cost (aluA .or y) s = .next (logic (s.a ||| v) false (after len cost s)) :=
  (retire_aluA hy .or).trans (congrArg Host.Outcome.next (aluA_or v _))

theorem retire_cp : retire len cost (aluA .cp y) s = .next { after len cost s with f := differenceFlags v 0 s } :=
  (retire_aluA hy .cp).trans (congrArg Host.Outcome.next (aluA_cp v _))

end

/-- Settles O5: each form retires its operation on the operand it names. -/
theorem addAndAddWithCarry : Obligations.AddAndAddWithCarry := by
  refine fun s => ⟨fun p hp => ?_, ⟨rfl, retire_add rfl⟩, fun n => ⟨rfl, retire_add rfl⟩,
    fun p hp => ?_, ⟨rfl, retire_adc rfl⟩, fun n => ⟨rfl, retire_adc rfl⟩⟩
  · fin_cases hp <;> exact ⟨rfl, retire_add rfl⟩
  · fin_cases hp <;> exact ⟨rfl, retire_adc rfl⟩

/-- Settles O6: each form retires its operation on the operand it names. -/
theorem subtractAndSubtractWithCarry : Obligations.SubtractAndSubtractWithCarry := by
  refine fun s => ⟨fun p hp => ?_, ⟨rfl, retire_sub rfl⟩, fun n => ⟨rfl, retire_sub rfl⟩,
    fun p hp => ?_, ⟨rfl, retire_sbc rfl⟩, fun n => ⟨rfl, retire_sbc rfl⟩⟩
  · fin_cases hp <;> exact ⟨rfl, retire_sub rfl⟩
  · fin_cases hp <;> exact ⟨rfl, retire_sbc rfl⟩

/-- Settles O7: each form retires its operation on the operand it names. -/
theorem logicOperations : Obligations.LogicOperations := by
  refine fun s => ⟨fun p hp => ?_, ⟨rfl, retire_and rfl⟩, fun n => ⟨rfl, retire_and rfl⟩,
    fun p hp => ?_, ⟨rfl, retire_xor rfl⟩, fun n => ⟨rfl, retire_xor rfl⟩,
    fun p hp => ?_, ⟨rfl, retire_or rfl⟩, fun n => ⟨rfl, retire_or rfl⟩⟩
  · fin_cases hp <;> exact ⟨rfl, retire_and rfl⟩
  · fin_cases hp <;> exact ⟨rfl, retire_xor rfl⟩
  · fin_cases hp <;> exact ⟨rfl, retire_or rfl⟩

/-- Settles O8: each form retires the subtraction's flags, A not written. -/
theorem compare : Obligations.Compare := by
  refine fun s => ⟨fun p hp => ?_, ⟨rfl, retire_cp rfl⟩, fun n => ⟨rfl, retire_cp rfl⟩⟩
  fin_cases hp <;> exact ⟨rfl, retire_cp rfl⟩

/-! ## INC and DEC (41_alu8 R225 to R228) -/

theorem incR8_eq (r : R8) (s : State) :
    incR8 r s = { dst r (src r s + 1) s with f := incFlags (src r s) s } := by
  have hz : (src r s + 1 == 0) = decide (src r s = 0xFF) := decide_eq_decide.2 (by bv_omega)
  simp only [incR8, State.putFlags, packFlags_eq_flags, hz]
  rfl

theorem decR8_eq (r : R8) (s : State) :
    decR8 r s = { dst r (src r s - 1) s with f := decFlags (src r s) s } := by
  have hz : (src r s - 1 == 0) = decide (src r s = 1) := decide_eq_decide.2 (by bv_omega)
  simp only [decR8, State.putFlags, packFlags_eq_flags, hz]
  rfl

@[simp] theorem src_advancePc (r : R8) (s : State) (n : Nat) : src r (s.advancePc n) = src r s := by
  cases r <;> rfl

theorem after_eq (len cost : Nat) (s : State) : after len cost s = (s.advancePc len).charge cost := rfl

/-- The cost may be charged before the operand is written. -/
theorem dst_charge (r : R8) (v : Byte) (s : State) (n : Nat) : dst r v (s.charge n) = (dst r v s).charge n := by
  cases r
  case atHL => exact (writeByte_charge (s.reg16 .hl) v s n).symm
  all_goals rfl

theorem retire_incR8 (r : R8) (cost : Nat) (s : State) : retire 1 cost (incR8 r) s =
    .next { dst r (src r s + 1) (after 1 cost s) with f := incFlags (src r s) s } := by
  rw [retire, incR8_eq, src_advancePc, after_eq, dst_charge]
  rfl

theorem retire_decR8 (r : R8) (cost : Nat) (s : State) : retire 1 cost (decR8 r) s =
    .next { dst r (src r s - 1) (after 1 cost s) with f := decFlags (src r s) s } := by
  rw [retire, decR8_eq, src_advancePc, after_eq, dst_charge]
  rfl

/-- Settles O9: each form retires `incR8` or `decR8` of its r8 code. -/
theorem incrementAndDecrementByte : Obligations.IncrementAndDecrementByte := by
  refine fun s => ⟨fun p hp => ?_, ⟨rfl, retire_incR8 .atHL 12 s⟩, fun p hp => ?_, ⟨rfl, retire_decR8 .atHL 12 s⟩⟩
  · fin_cases hp <;> exact ⟨rfl, retire_incR8 _ 4 s⟩
  · fin_cases hp <;> exact ⟨rfl, retire_decR8 _ 4 s⟩

/-! ## CPL and DAA (41_alu8 R229, R230) -/

theorem cplA_eq (s : State) : cplA s = { s with a := ~~~s.a, f := flags s.flagZ true true s.flagC } := by
  rw [cplA, State.putFlags, packFlags_eq_flags, show s.a ^^^ 0xFF = ~~~s.a from BitVec.xor_allOnes]

/-- After an addition the model tests the low digit with the high correction made, which leaves that digit as it was. -/
theorem daaAdjust_of_add {s : State} (hn : s.flagN = false) :
    daaAdjust s.a false s.flagH s.flagC = (daaResult s, daaHigh s) := by
  have hhigh : (s.flagC || decide (s.a.toNat > 0x99)) = daaHigh s := by simp [daaHigh, hn]
  have hlow : (s.flagH || decide (s.a.toNat % 16 > 9)) = daaLow s := by simp [daaLow, hn]
  have hdigit : (s.a.toNat + 0x60) % 16 = s.a.toNat % 16 := by omega
  simp only [daaAdjust, daaResult, daaCorrection, hhigh, hn]
  cases daaHigh s
  · simp only [hlow, Bool.false_eq_true, if_false]
    cases daaLow s <;> rfl
  · simp only [hdigit, hlow, if_true]
    cases daaLow s <;> rfl

theorem daaAdjust_of_sub {s : State} (hn : s.flagN = true) :
    daaAdjust s.a true s.flagH s.flagC = (daaResult s, daaHigh s) := by
  have hhigh : daaHigh s = s.flagC := by simp [daaHigh, hn]
  have hlow : daaLow s = s.flagH := by simp [daaLow, hn]
  simp only [daaAdjust, daaResult, daaCorrection, hhigh, hlow, hn, if_true, Prod.mk.injEq, and_true]
  refine ofInt_eq_byte ?_
  cases s.flagC <;> cases s.flagH <;> simp <;> omega

theorem daaAdjust_eq (s : State) : daaAdjust s.a s.flagN s.flagH s.flagC = (daaResult s, daaHigh s) := by
  cases hn : s.flagN
  case false => exact daaAdjust_of_add hn
  case true => exact daaAdjust_of_sub hn

theorem daaA_eq (s : State) : daaA s =
    { s with a := daaResult s, f := flags (decide (daaResult s = 0)) s.flagN false (daaHigh s) } := by
  rw [daaA, daaAdjust_eq, State.putFlags, packFlags_eq_flags]
  rfl

theorem exec_daa (s : State) : exec .daa s =
    .next { after 1 4 s with a := daaResult s, f := flags (decide (daaResult s = 0)) s.flagN false (daaHigh s) } := by
  show retire 1 4 daaA s = _
  rw [retire, daaA_eq]
  rfl

theorem exec_cpl (s : State) : exec .cpl s =
    .next { after 1 4 s with a := ~~~s.a, f := flags s.flagZ true true s.flagC } := by
  show retire 1 4 cplA s = _
  rw [retire, cplA_eq]
  rfl

/-- Settles O10, by the two effects in plain arithmetic. -/
theorem complementAndDecimalAdjust : Obligations.ComplementAndDecimalAdjust :=
  fun s => ⟨⟨rfl, exec_cpl s⟩, ⟨rfl, exec_daa s⟩⟩

/-! ## DAA after a sum or a difference of two-digit numbers -/

/-- A two-digit number read as a byte. -/
theorem toNat_bcd {n : Nat} (h : n < 100) : (bcd n).toNat = n / 10 * 16 + n % 10 := by
  rw [bcd, toNat_byte]
  omega

theorem flagN_flags (z n h c : Bool) : (flags z n h c).getLsbD 6 = n := by
  rw [← packFlags_eq_flags, flagN_packFlags]

theorem flagH_flags (z n h c : Bool) : (flags z n h c).getLsbD 5 = h := by
  rw [← packFlags_eq_flags, flagH_packFlags]

theorem flagC_flags (z n h c : Bool) : (flags z n h c).getLsbD 4 = c := by
  rw [← packFlags_eq_flags, flagC_packFlags]

section
variable (x : Byte) (c : Nat) (t : State)

theorem sum_toNat_a : (sum x c t).a.toNat = (t.a.toNat + x.toNat + c) % 256 := toNat_byte _

theorem flagN_sum : (sum x c t).flagN = false := flagN_flags _ _ _ _

theorem flagH_sum : (sum x c t).flagH = decide (15 < t.a.toNat % 16 + x.toNat % 16 + c) := flagH_flags _ _ _ _

theorem flagC_sum : (sum x c t).flagC = decide (255 < t.a.toNat + x.toNat + c) := flagC_flags _ _ _ _

theorem difference_toNat_a : (difference x c t).a.toNat = (t.a.toNat + 512 - x.toNat - c) % 256 := toNat_byte _

theorem flagN_difference : (difference x c t).flagN = true := flagN_flags _ _ _ _

theorem flagH_difference : (difference x c t).flagH = decide (t.a.toNat % 16 < x.toNat % 16 + c) := flagH_flags _ _ _ _

theorem flagC_difference : (difference x c t).flagC = decide (t.a.toNat < x.toNat + c) := flagC_flags _ _ _ _

end

section
variable {m n c : Nat} (hm : m < 100) (hn : n < 100) (hc : c ≤ 1) {t : State} (ht : t.a = bcd m)
include hm hn hc ht

/-- The high digit of the binary sum is corrected exactly when the decimal sum reaches 100. -/
theorem daaHigh_sum : daaHigh (sum (bcd n) c t) = decide (100 ≤ m + n + c) := by
  have hsum : 0x9A ≤ m / 10 * 16 + m % 10 + (n / 10 * 16 + n % 10) + c ↔ 100 ≤ m + n + c := by
    by_cases hd : m / 10 + n / 10 < 10 <;> omega
  rw [daaHigh, flagC_sum, flagN_sum, sum_toNat_a, ht, toNat_bcd hm, toNat_bcd hn, Bool.not_false, Bool.true_and,
    ← Bool.decide_or, decide_eq_decide, ← hsum]
  omega

/-- The low digit of the binary sum is corrected exactly when the decimal digits carry. -/
theorem daaLow_sum : daaLow (sum (bcd n) c t) = decide (10 ≤ m % 10 + n % 10 + c) := by
  rw [daaLow, flagH_sum, flagN_sum, sum_toNat_a, ht, toNat_bcd hm, toNat_bcd hn, Bool.not_false, Bool.true_and,
    ← Bool.decide_or, decide_eq_decide]
  omega

theorem daaResult_sum : daaResult (sum (bcd n) c t) = bcd ((m + n + c) % 100) := by
  rw [daaResult, flagN_sum, if_neg Bool.false_ne_true, daaCorrection, daaHigh_sum hm hn hc ht, daaLow_sum hm hn hc ht,
    sum_toNat_a, ht, toNat_bcd hm, toNat_bcd hn, bcd, byte_eq_byte_iff]
  simp only [decide_eq_true_eq]
  split <;> split <;> omega

/-- After a subtraction the high digit is corrected exactly when the decimal difference borrows. -/
theorem daaHigh_difference : daaHigh (difference (bcd n) c t) = decide (m < n + c) := by
  rw [daaHigh, flagC_difference, flagN_difference, ht, toNat_bcd hm, toNat_bcd hn, Bool.not_true, Bool.false_and,
    Bool.or_false, decide_eq_decide]
  omega

/-- The low digit is corrected exactly when the decimal digits borrow. -/
theorem daaLow_difference : daaLow (difference (bcd n) c t) = decide (m % 10 < n % 10 + c) := by
  rw [daaLow, flagH_difference, flagN_difference, ht, toNat_bcd hm, toNat_bcd hn, Bool.not_true, Bool.false_and,
    Bool.or_false, decide_eq_decide]
  omega

theorem daaResult_difference : daaResult (difference (bcd n) c t) = bcd ((m + 200 - n - c) % 100) := by
  rw [daaResult, flagN_difference, if_pos rfl, daaCorrection, daaHigh_difference hm hn hc ht,
    daaLow_difference hm hn hc ht, difference_toNat_a, ht, toNat_bcd hm, toNat_bcd hn, bcd, byte_eq_byte_iff]
  simp only [decide_eq_true_eq]
  split <;> split <;> omega

end

/-- Settles O11: DAA's corrections are the decimal carries and borrows. -/
theorem decimalAdjustCorrectsBcd : Obligations.DecimalAdjustCorrectsBcd := by
  intro s m n hm hn ha
  have hc : s.flagC.toNat ≤ 1 := s.flagC.toNat_le
  have ht : (after 2 8 s).a = bcd m := ha
  refine ⟨⟨_, _, retire_adc rfl, exec_daa _, daaResult_sum hm hn hc ht, ?_⟩,
    ⟨_, _, retire_sbc rfl, exec_daa _, daaResult_difference hm hn hc ht, ?_⟩⟩
  · exact (flagC_flags _ _ _ _).trans (daaHigh_sum hm hn hc ht)
  · exact (flagC_flags _ _ _ _).trans (daaHigh_difference hm hn hc ht)

end Sys2Proof.Machine

/-! SUPPORT. 16-bit arithmetic: each shared effect on a 16-bit register retired, with its flags in the plain arithmetic of the
statements. -/

namespace Sys2Proof.Machine
open Sys2Proof.Claims

/-! ## A 16-bit register written and the instruction retired (30_encoding R160) -/

/-- The cost may be charged before the register is written. -/
theorem setReg16_charge (r : Reg16) (v : Word) (s : State) (n : Nat) :
    (s.charge n).setReg16 r v = (s.setReg16 r v).charge n := by
  cases r <;> rfl

section
variable {r : Reg16} {v : Word} {len cost : Nat} {s : State}

/-- `v` is what `r` holds when the effect runs, PC advanced; for every register but PC, what it held before. -/
theorem retire_incR16 (hv : (s.advancePc len).reg16 r = v) :
    retire len cost (incR16 r) s = .next ((after len cost s).setReg16 r (v + 1)) := by
  rw [after_eq, setReg16_charge, ← hv]
  rfl

theorem retire_decR16 (hv : (s.advancePc len).reg16 r = v) :
    retire len cost (decR16 r) s = .next ((after len cost s).setReg16 r (v - 1)) := by
  rw [after_eq, setReg16_charge, ← hv]
  rfl

/-- ADD HL,rr: Z is kept, N is 0, H and C are the carries of the unsigned sum. -/
theorem retire_addHL (hv : (s.advancePc len).reg16 r = v) : retire len cost (addHL r) s = .next
    { pHL.put (hl s + v) (after len cost s) with
      f := flags s.flagZ false (decide (0xFFF < (hl s).toNat % 0x1000 + v.toNat % 0x1000))
        (decide (0xFFFF < (hl s).toNat + v.toNat)) } := by
  rw [← packFlags_eq_flags, ← hv]
  rfl

/-- SP plus a signed byte into `r`: Z and N are 0, H and C are the carries of the unsigned sum of SP's low byte and it. -/
theorem retire_spPlus (r : Reg16) (n : Byte) : retire len cost (spPlus r n) s = .next
    { (after len cost s).setReg16 r (s.sp + n.signExtend 16) with
      f := flags false false (decide (15 < s.sp.toNat % 16 + n.toNat % 16))
        (decide (255 < s.sp.toNat % 256 + n.toNat)) } := by
  rw [← packFlags_eq_flags, ← addSigned8_eq, after_eq, setReg16_charge]
  rfl

end

/-- Settles O12: each form retires the addition of the pair it names. -/
theorem addToHL : Obligations.AddToHL := by
  intro s p hp
  fin_cases hp <;> exact ⟨rfl, retire_addHL rfl⟩

/-- Settles O13: each form retires `incR16` or `decR16` of the pair it names. -/
theorem incrementAndDecrementPair : Obligations.IncrementAndDecrementPair := by
  refine fun s => ⟨fun p hp => ?_, fun p hp => ?_⟩
  · fin_cases hp <;> exact ⟨rfl, retire_incR16 rfl⟩
  · fin_cases hp <;> exact ⟨rfl, retire_decR16 rfl⟩

/-- Settles O14: both forms retire the signed sum, ADD SP,e8 into SP and LD HL,SP+e8 into HL. -/
theorem stackPointerOffset : Obligations.StackPointerOffset :=
  fun _ n => ⟨⟨rfl, retire_spPlus .sp n⟩, ⟨rfl, retire_spPlus .hl n⟩⟩

end Sys2Proof.Machine

/-! SUPPORT. Rotates and shifts: the model's `rot` as the formulas of the statements, and its two effects retired. -/

namespace Sys2Proof.Machine
open Sys2Proof.Claims

/-- The formula the statements give for each operation (43_rotate_shift R269). -/
def rotFormula : RotOp → Byte → Bool → Byte × Bool
  | .rlc => rlcOf
  | .rrc => rrcOf
  | .rl => rlOf
  | .rr => rrOf
  | .sla => slaOf
  | .sra => sraOf
  | .swap => swapOf
  | .srl => srlOf

/-- The bits the model joins are the numbers of the formulas, operation by operation. -/
theorem rot_eq_rotFormula (op : RotOp) (v : Byte) (c : Bool) : rot op v c = rotFormula op v c := by
  cases op
  case rlc => exact rot_rlc v c
  case rrc => exact rot_rrc v c
  case rl => exact rot_rl v c
  case rr => exact rot_rr v c
  case sla => exact rot_sla v c
  case sra => exact rot_sra v c
  case swap => exact rot_swap v c
  case srl => exact rot_srl v c

/-- RLCA, RRCA, RLA, RRA: A and C, the other three flags 0 (43_rotate_shift R270 to R273). -/
theorem retire_rotA (op : RotOp) (s : State) : retire 1 4 (rotA op) s = .next
    { after 1 4 s with
      a := (rotFormula op s.a s.flagC).1
      f := flags false false false (rotFormula op s.a s.flagC).2 } := by
  rw [← rot_eq_rotFormula, ← packFlags_eq_flags]
  rfl

theorem rotR8_eq (op : RotOp) (r : R8) (s : State) : rotR8 op r s =
    { dst r (rotFormula op (src r s) s.flagC).1 s with
      f := flags (decide ((rotFormula op (src r s) s.flagC).1 = 0)) false false (rotFormula op (src r s) s.flagC).2 } := by
  rw [← rot_eq_rotFormula, ← packFlags_eq_flags]
  rfl

/-- A prefixed rotate or shift: the operand is read after PC's advance and written before the cost is charged, which
neither changes. -/
theorem retire_rotR8 (op : RotOp) (r : R8) (cost : Nat) (s : State) : retire 2 cost (rotR8 op r) s = .next
    { dst r (rotFormula op (src r s) s.flagC).1 (after 2 cost s) with
      f := flags (decide ((rotFormula op (src r s) s.flagC).1 = 0)) false false (rotFormula op (src r s) s.flagC).2 } := by
  rw [retire, rotR8_eq, src_advancePc, after_eq, dst_charge]
  rfl

/-- Settles O15: each form retires `rotA` of its operation. -/
theorem accumulatorRotates : Obligations.AccumulatorRotates := by
  intro s p hp
  fin_cases hp <;> exact ⟨rfl, retire_rotA _ s⟩

/-- Settles O16: each form retires `rotR8` of its operation and r8 code. -/
theorem prefixedRotatesOfRegisters : Obligations.PrefixedRotatesOfRegisters := by
  intro s p hp
  fin_cases hp <;> exact ⟨rfl, retire_rotR8 _ _ 8 s⟩

/-- Settles O17: each form retires `rotR8` of its operation at (HL), the operand written by the bus. -/
theorem prefixedRotatesOfMemory : Obligations.PrefixedRotatesOfMemory := by
  intro s p hp
  fin_cases hp <;> exact ⟨rfl, retire_rotR8 _ .atHL 16 s⟩

end Sys2Proof.Machine

/-! SUPPORT. Bit operations: BIT, RES and SET of an r8 code retired. -/

namespace Sys2Proof.Machine
open Sys2Proof.Claims

theorem bitR8_eq (b : Nat) (r : R8) (s : State) : bitR8 b r s =
    { s with f := flags (!(src r s).getLsbD b) false true s.flagC } := by
  rw [bitR8, State.putFlags, packFlags_eq_flags]

/-- BIT b,x: the operand is read after PC's advance, which does not change it; only F is written (44_bit_ops R300, R301). -/
theorem retire_bitR8 (b : Nat) (r : R8) (cost : Nat) (s : State) : retire 2 cost (bitR8 b r) s =
    .next { after 2 cost s with f := flags (!(src r s).getLsbD b) false true s.flagC } := by
  rw [retire, bitR8_eq, src_advancePc]
  rfl

/-- The model's mask, a power of two, is the statements' shifted one. -/
theorem bitMask_eq_shiftLeft (b : Nat) : bitMask b = 1#8 <<< b := by
  apply BitVec.eq_of_toNat_eq
  rw [bitMask, BitVec.toNat_ofNat, BitVec.toNat_shiftLeft, BitVec.toNat_one (by decide), Nat.one_shiftLeft]

/-- RES b,x: the operand is written back with the bit cleared, no flag (44_bit_ops R302, R303). -/
theorem retire_resR8 (b : Nat) (r : R8) (cost : Nat) (s : State) : retire 2 cost (resR8 b r) s =
    .next (dst r (src r s &&& ~~~(1#8 <<< b)) (after 2 cost s)) := by
  rw [retire, resR8, bitMask_eq_shiftLeft, src_advancePc, after_eq, dst_charge]

/-- SET b,x: the operand is written back with the bit set, no flag (44_bit_ops R304, R305). -/
theorem retire_setR8 (b : Nat) (r : R8) (cost : Nat) (s : State) : retire 2 cost (setR8 b r) s =
    .next (dst r (src r s ||| 1#8 <<< b) (after 2 cost s)) := by
  rw [retire, setR8, bitMask_eq_shiftLeft, src_advancePc, after_eq, dst_charge]

/-- Settles O18: each form retires `bitR8` of its bit and r8 code. -/
theorem bitTest : Obligations.BitTest := by
  refine fun s => ⟨fun p hp => ?_, fun p hp => ?_⟩
  · fin_cases hp <;> exact ⟨rfl, retire_bitR8 _ _ 8 s⟩
  · fin_cases hp <;> exact ⟨rfl, retire_bitR8 _ .atHL 12 s⟩

/-- Settles O19: each form retires `resR8` or `setR8` of its bit and r8 code. -/
theorem bitResetAndSet : Obligations.BitResetAndSet := by
  refine fun s => ⟨fun p hp => ?_, fun p hp => ?_, fun p hp => ?_, fun p hp => ?_⟩
  · fin_cases hp <;> exact ⟨rfl, retire_resR8 _ _ 8 s⟩
  · fin_cases hp <;> exact ⟨rfl, retire_resR8 _ .atHL 16 s⟩
  · fin_cases hp <;> exact ⟨rfl, retire_setR8 _ _ 8 s⟩
  · fin_cases hp <;> exact ⟨rfl, retire_setR8 _ .atHL 16 s⟩

end Sys2Proof.Machine

/-! SUPPORT. Control transfer: each jump, call and return retired, taken and not taken. -/

namespace Sys2Proof.Machine
open Sys2Proof.Claims

/-! ## The push (47_stack R390) -/

/-- The model writes the high byte at the new SP + 1, which is the old SP - 1. -/
theorem push16_eq_pushed (v : Word) (s : State) : push16 v s = pushed v s := by
  have hhi : s.sp - 2 + 1 = s.sp - 1 := by bv_omega
  simp only [push16, pushed, hhi]

/-- The cost may be charged before the push. -/
theorem push16_charge (v : Word) (s : State) (n : Nat) : push16 v (s.charge n) = (push16 v s).charge n := by
  simp only [push16, writeByte_charge]
  rfl

/-! ## The effects retired: PC advanced before, the cost charged after (30_encoding R160) -/

section
variable (len cost : Nat) (s : State)

theorem retire_jumpTo (x : Word) : retire len cost (jumpTo x) s = .next { after len cost s with pc := x } := rfl

theorem retire_jumpRel (n : Byte) : retire len cost (jumpRel n) s =
    .next { after len cost s with pc := (after len cost s).pc + n.signExtend 16 } := by
  rw [← addSigned8_eq]
  rfl

/-- The return address is PC past the instruction (45_control_transfer R326). -/
theorem retire_callTo (x : Word) : retire len cost (callTo x) s =
    .next { pushed (after len cost s).pc (after len cost s) with pc := x } := by
  rw [← push16_eq_pushed, after_eq, push16_charge]
  rfl

theorem retire_returnTo : retire len cost returnTo s =
    .next { after len cost s with pc := top s, sp := s.sp + 2 } := rfl

theorem retire_returnFromInterrupt : retire len cost returnFromInterrupt s =
    .next { after len cost s with pc := top s, sp := s.sp + 2, ime := true, eiPending := false } := rfl

end

/-- A conditional instruction ends as its effect retires at the taken cost, or else only past itself at the other cost
(45_control_transfer R320, 70_reset R631). -/
theorem retireIf_of_retire {c : State → Bool} {len notTaken taken : Nat} {eff : State → State} {s t : State}
    (h : retire len taken eff s = .next t) :
    retireIf c len notTaken taken eff s = .next (if c s then t else after len notTaken s) := by
  rw [retireIf, h]
  split <;> rfl

/-- Settles O20: each form retires `jumpTo` its target. -/
theorem jumps : Obligations.Jumps := by
  refine fun s w => ⟨⟨rfl, retire_jumpTo 3 16 s w⟩, ⟨rfl, retire_jumpTo 1 4 s (hl s)⟩, fun p hp => ?_⟩
  fin_cases hp <;> exact ⟨rfl, retireIf_of_retire (retire_jumpTo 3 16 s w)⟩

/-- Settles O21: each form retires `jumpRel` of its displacement. -/
theorem relativeJumps : Obligations.RelativeJumps := by
  refine fun s n => ⟨⟨rfl, retire_jumpRel 2 12 s n⟩, fun p hp => ?_⟩
  fin_cases hp <;> exact ⟨rfl, retireIf_of_retire (retire_jumpRel 2 12 s n)⟩

/-- Settles O22: each form retires `callTo` its target. -/
theorem callsAndRestarts : Obligations.CallsAndRestarts := by
  refine fun s w => ⟨⟨rfl, retire_callTo 3 24 s w⟩, fun p hp => ?_, fun p hp => ?_⟩
  · fin_cases hp <;> exact ⟨rfl, retireIf_of_retire (retire_callTo 3 24 s w)⟩
  · fin_cases hp <;> exact ⟨rfl, retire_callTo 1 16 s _⟩

/-- Settles O23: RET and RET cc retire `returnTo`, RETI `returnFromInterrupt`. -/
theorem returns : Obligations.Returns := by
  refine fun s => ⟨⟨rfl, retire_returnTo 1 16 s⟩, fun p hp => ?_, ⟨rfl, retire_returnFromInterrupt 1 16 s⟩⟩
  fin_cases hp <;> exact ⟨rfl, retireIf_of_retire (retire_returnTo 1 20 s)⟩

end Sys2Proof.Machine

/-! SUPPORT. Loads: each 8-bit and 16-bit load and store retired. -/

namespace Sys2Proof.Machine
open Sys2Proof.Claims

/-! ## Bytes between registers and memory (46_loads R350 to R354) -/

/-- LD over r8 codes: the source is read after PC's advance and the destination written before the cost is charged, which
neither changes. -/
theorem retire_loadR8 (y z : R8) (cost : Nat) (s : State) :
    retire 1 cost (loadR8 y z) s = .next (dst y (src z s) (after 1 cost s)) := by
  rw [retire, loadR8, src_advancePc, after_eq, dst_charge]

theorem retire_loadImm (y : R8) (n : Byte) (cost : Nat) (s : State) :
    retire 2 cost (loadImm y n) s = .next (dst y n (after 2 cost s)) := by
  rw [retire, loadImm, after_eq, dst_charge]

/-- Settles O24: each form retires `loadR8` of its two r8 codes, or `loadImm` of its r8 code. -/
theorem byteLoads : Obligations.ByteLoads := by
  refine fun s => ⟨fun p hp => ?_, fun n p hp => ?_, fun p hp => ?_, fun p hp => ?_,
    fun n => ⟨rfl, retire_loadImm .atHL n 12 s⟩⟩
  · fin_cases hp <;> exact ⟨rfl, retire_loadR8 _ _ 4 s⟩
  · fin_cases hp <;> exact ⟨rfl, retire_loadImm _ n 8 s⟩
  · fin_cases hp <;> exact ⟨rfl, retire_loadR8 _ .atHL 8 s⟩
  · fin_cases hp <;> exact ⟨rfl, retire_loadR8 .atHL _ 8 s⟩

/-! ## A and the byte at an effective address (46_loads R355 to R364) -/

section
variable {m : Ea} {x : Word} {len cost : Nat} {s : State} (hx : ea m (s.advancePc len) = x)
include hx

/-- `x` is what the mode names when the effect runs, PC advanced. -/
theorem retire_loadA : retire len cost (loadA m) s = .next { after len cost s with a := readByte s x } := by
  rw [← hx]
  rfl

theorem retire_storeA : retire len cost (storeA m) s = .next (writeByte x s.a (after len cost s)) := by
  rw [retire, storeA, hx, writeByte_charge]
  rfl

end

/-- Settles O25: each form retires `loadA` of its mode; the page modes add to 0xFF00 by `page_eq`. -/
theorem accumulatorLoads : Obligations.AccumulatorLoads :=
  fun s => ⟨⟨rfl, retire_loadA rfl⟩, ⟨rfl, retire_loadA rfl⟩, fun _ => ⟨rfl, retire_loadA rfl⟩,
    fun n => ⟨rfl, retire_loadA (page_eq n)⟩, ⟨rfl, retire_loadA (page_eq s.c)⟩⟩

/-- Settles O26: each form retires `storeA` of its mode; the page modes add to 0xFF00 by `page_eq`. -/
theorem accumulatorStores : Obligations.AccumulatorStores :=
  fun s => ⟨⟨rfl, retire_storeA rfl⟩, ⟨rfl, retire_storeA rfl⟩, fun _ => ⟨rfl, retire_storeA rfl⟩,
    fun n => ⟨rfl, retire_storeA (page_eq n)⟩, ⟨rfl, retire_storeA (page_eq s.c)⟩⟩

/-! ## A and the byte at HL, HL then moved (46_loads R365 to R368) -/

theorem retire_loadAStep (delta : Word) (s : State) : retire 1 8 (loadAStep delta) s =
    .next { pHL.put (hl s + delta) (after 1 8 s) with a := atHL s } := rfl

/-- The cost may be charged before the store; the address and the move are both taken from the old HL. -/
theorem retire_storeAStep (delta : Word) (s : State) : retire 1 8 (storeAStep delta) s =
    .next (pHL.put (hl s + delta) (writeByte (hl s) s.a (after 1 8 s))) := by
  rw [after_eq, ← writeByte_charge]
  rfl

/-- Settles O27: each form retires `loadAStep` or `storeAStep` by 1 or by -1. -/
theorem steppingLoadsAndStores : Obligations.SteppingLoadsAndStores := by
  intro s
  rw [BitVec.sub_eq_add_neg]
  exact ⟨⟨rfl, retire_loadAStep 1 s⟩, ⟨rfl, retire_loadAStep (-1) s⟩, ⟨rfl, retire_storeAStep 1 s⟩,
    ⟨rfl, retire_storeAStep (-1) s⟩⟩

/-! ## Words (46_loads R369 to R371) -/

theorem retire_loadR16 (r : Reg16) (w : Word) (s : State) :
    retire 3 12 (loadR16 r w) s = .next ((after 3 12 s).setReg16 r w) := by
  rw [after_eq, setReg16_charge]
  rfl

/-- Both bus writes commute with the charge. -/
theorem retire_storeSP (w : Word) (s : State) : retire 3 20 (storeSP w) s =
    .next (writeByte (w + 1) (hiByte s.sp) (writeByte w (loByte s.sp) (after 3 20 s))) := by
  rw [after_eq, ← writeByte_charge, ← writeByte_charge]
  rfl

theorem retire_loadSPHL (s : State) : retire 1 8 loadSPHL s = .next { after 1 8 s with sp := hl s } := rfl

/-- Settles O28: LD rr,d16 retires `loadR16` of its pair, the other two `storeSP` and `loadSPHL`. -/
theorem wordLoads : Obligations.WordLoads := by
  refine fun s w => ⟨fun p hp => ?_, ⟨rfl, retire_storeSP w s⟩, ⟨rfl, retire_loadSPHL s⟩⟩
  fin_cases hp <;> exact ⟨rfl, retire_loadR16 _ w s⟩

end Sys2Proof.Machine

/-! SUPPORT. The stack: PUSH and POP retired, and what POP gives back after PUSH. -/

namespace Sys2Proof.Machine
open Sys2Proof.Claims

/-! ## The effects retired (47_stack R391, R392) -/

section
variable {r : Reg16} {v : Word} {len cost : Nat} {s : State}

/-- `v` is what `r` holds when the effect runs, PC advanced. -/
theorem retire_pushR16 (hv : (s.advancePc len).reg16 r = v) :
    retire len cost (pushR16 r) s = .next (pushed v (after len cost s)) := by
  rw [← push16_eq_pushed, after_eq, push16_charge, ← hv]
  rfl

/-- The word is read from the stack as it was; `r` is written after SP has moved. -/
theorem retire_popR16 (r : Reg16) :
    retire len cost (popR16 r) s = .next ((dropTop (after len cost s)).setReg16 r (top s)) := by
  rw [retire, popR16, ← setReg16_charge]
  rfl

end

/-- Settles O29: each form retires `pushR16` or `popR16` of the pair it names. -/
theorem pushAndPop : Obligations.PushAndPop := by
  refine fun s => ⟨fun p hp => ?_, fun p hp => ?_, ⟨rfl, retire_popR16 .af⟩⟩
  · fin_cases hp <;> exact ⟨rfl, retire_pushR16 rfl⟩
  · fin_cases hp <;> exact ⟨rfl, retire_popR16 _⟩

/-! ## The pairs and their slots -/

/-- `r` is one of the four pairs, a view over two of the eight slots (10_state R50). -/
def IsPair (r : Reg16) : Prop := r ≠ .sp ∧ r ≠ .pc

/-- A pair is read from the eight slots alone. -/
theorem reg16_eq_of_reg8_eq {r : Reg16} {s t : State} (hr : IsPair r) (h : ∀ q, t.reg8 q = s.reg8 q) :
    t.reg16 r = s.reg16 r := by
  cases r with
  | af => exact congrArg₂ (· ++ ·) (h .a) (h .f)
  | bc => exact congrArg₂ (· ++ ·) (h .b) (h .c)
  | de => exact congrArg₂ (· ++ ·) (h .d) (h .e)
  | hl => exact congrArg₂ (· ++ ·) (h .h) (h .l)
  | sp => exact absurd rfl hr.1
  | pc => exact absurd rfl hr.2

/-- Masking F changes nothing when its low nibble is clear (10_state R52, R55). -/
theorem and_highNibble_eq_self {v : Byte} (h : v &&& 0x0F = 0) : v &&& 0xF0 = v := by
  calc v &&& 0xF0 = v &&& 0xF0 ||| v &&& 0x0F := by rw [h]; exact BitVec.or_zero.symm
    _ = v &&& (0xF0 ||| 0x0F) := BitVec.and_or_distrib_left.symm
    _ = v := BitVec.and_allOnes

/-- Writing to a register what it holds changes nothing; for AF because F holds no bit that the write masks. -/
theorem setReg16_eq_self {r : Reg16} {v : Word} {s : State} (hf : s.f &&& 0x0F = 0) (hv : s.reg16 r = v) :
    s.setReg16 r v = s := by
  subst hv
  cases r <;>
    simp only [State.setReg16, State.reg16, State.setReg8, hiByte_append, loByte_append, and_highNibble_eq_self hf]

/-! ## The stack bytes -/

theorem reg8_pushed (v : Word) (s : State) (q : Reg8) : (pushed v s).reg8 q = s.reg8 q := by
  cases q <;> simp [State.reg8, pushed]

/-- A write has no side effect at `x`, and a read composes nothing there (20_memory R110, R120). -/
def IsPlain (x : Word) : Prop :=
  0x8000 ≤ x.toNat ∧ x ≠ 0xFF00 ∧ x ≠ 0xFF01 ∧ x ≠ 0xFF04 ∧ x ≠ 0xFF41 ∧ x ≠ 0xFF46

theorem readByte_writeByte_plain {x : Word} (hx : IsPlain x) (v : Byte) {s : State} (hm : s.mem.wf = true) :
    readByte (writeByte x v s) x = v := by
  obtain ⟨hlo, hjoyp, hserial, hdiv, hstat, hdma⟩ := hx
  exact (plainCellReadback s x v hm hlo hjoyp hserial hdiv hstat hdma).1

/-- The boot overlay and the banked window lie below `y`, so not even a write at 0xFF50 shows there. -/
theorem readByte_writeByte_plain_other {x y : Word} (hx : IsPlain x) (hy : 0x8000 ≤ y.toNat) (hne : y ≠ x) (v : Byte)
    (s : State) : readByte (writeByte x v s) y = readByte s y := by
  obtain ⟨-, -, -, -, -, hdma⟩ := hx
  exact readByte_writeByte_other x y v s hne (fun e => absurd e hdma) (fun _ => by omega) (fun _ _ _ _ => by omega)

/-- On a plain stack the word pushed is the word at its top: the low byte's write leaves the high byte. -/
theorem top_pushed (v : Word) {s : State} (hm : s.mem.wf = true) (hs : ∀ x ∈ stackSlots s, IsPlain x) :
    top (pushed v s) = v := by
  have hhi : IsPlain (s.sp - 1) := hs _ (by simp [stackSlots])
  have hlo : IsPlain (s.sp - 2) := hs _ (by simp [stackSlots])
  have hsp : (pushed v s).sp = s.sp - 2 := by simp [pushed]
  have hsucc : s.sp - 2 + 1 = s.sp - 1 := by bv_omega
  have hne : s.sp - 1 ≠ s.sp - 2 := by bv_omega
  have readHi : readByte (pushed v s) (s.sp - 1) = hiByte v :=
    (readByte_writeByte_plain_other hlo hhi.1 hne _ _).trans (readByte_writeByte_plain hhi _ hm)
  have readLo : readByte (pushed v s) (s.sp - 2) = loByte v :=
    readByte_writeByte_plain hlo _ (writeByte_wf _ _ _ hm)
  rw [top, hsp, hsucc, readHi, readLo, hi_lo_append]

/-! ## POP after PUSH -/

/-- POP of a pair that holds the word at the top already only moves SP. -/
theorem retire_popR16_of_top {r : Reg16} {s : State} (len cost : Nat) (hr : IsPair r) (hf : s.f &&& 0x0F = 0)
    (htop : top s = s.reg16 r) : retire len cost (popR16 r) s = .next (dropTop (after len cost s)) := by
  have hkept : (dropTop (after len cost s)).reg16 r = s.reg16 r := reg16_eq_of_reg8_eq hr fun _ => rfl
  have hlow : (dropTop (after len cost s)).f &&& 0x0F = 0 := hf
  rw [retire_popR16, htop, setReg16_eq_self hlow hkept]

/-- PUSH of a pair and then POP of it leave SP and the eight registers: the push changes no register, so POP meets on the
stack what the pair still holds. -/
theorem retire_push_pop {r : Reg16} {s : State} (hr : IsPair r) (hm : s.mem.wf = true) (hf : s.f &&& 0x0F = 0)
    (hs : ∀ x ∈ stackSlots s, IsPlain x) :
    ∃ t u, retire 1 16 (pushR16 r) s = .next t ∧ retire 1 12 (popR16 r) t = .next u ∧
      u.sp = s.sp ∧ ∀ q, u.reg8 q = s.reg8 q := by
  have hpush : retire 1 16 (pushR16 r) s = .next (pushed (s.reg16 r) (after 1 16 s)) :=
    retire_pushR16 (reg16_eq_of_reg8_eq hr fun _ => rfl)
  have hregs : ∀ q, (pushed (s.reg16 r) (after 1 16 s)).reg8 q = s.reg8 q := reg8_pushed _ (after 1 16 s)
  have hlow : (pushed (s.reg16 r) (after 1 16 s)).f &&& 0x0F = 0 := (congrArg (· &&& 0x0F) (hregs .f)).trans hf
  have htop : top (pushed (s.reg16 r) (after 1 16 s)) = (pushed (s.reg16 r) (after 1 16 s)).reg16 r :=
    (top_pushed (s := after 1 16 s) _ hm hs).trans (reg16_eq_of_reg8_eq hr hregs).symm
  refine ⟨_, _, hpush, retire_popR16_of_top 1 12 hr hlow htop, ?_, hregs⟩
  simp [dropTop, after, pushed]

/-- Settles O30, by the round trip of each pair. -/
theorem pushThenPopReturns : Obligations.PushThenPopReturns := by
  intro s hm hf hs p hp
  fin_cases hp <;> exact retire_push_pop ⟨nofun, nofun⟩ hm hf hs

end Sys2Proof.Machine

/-! SUPPORT. CPU control: NOP, SCF, CCF, EI, DI, HALT and STOP retired. -/

namespace Sys2Proof.Machine
open Sys2Proof.Claims

/-! ## The effects retired: PC advanced before, the cost charged after (30_encoding R160) -/

section
variable (len cost : Nat) (s : State)

theorem retire_id : retire len cost id s = .next (after len cost s) := rfl

theorem retire_setCarry : retire len cost setCarry s =
    .next { after len cost s with f := flags s.flagZ false false true } := by
  rw [← packFlags_eq_flags]
  rfl

theorem retire_flipCarry : retire len cost flipCarry s =
    .next { after len cost s with f := flags s.flagZ false false (!s.flagC) } := by
  rw [← packFlags_eq_flags]
  rfl

theorem enableInterrupts_advancePc : enableInterrupts (s.advancePc len) =
    if s.cfg.eiDelay then { s.advancePc len with eiPending := true } else { s.advancePc len with ime := true } := rfl

/-- `EI_DELAY` alone decides between the two fields, whatever IME holds (48_cpu_control R403; log 15). -/
theorem retire_enableInterrupts : retire len cost enableInterrupts s = .next
    (if s.cfg.eiDelay then { after len cost s with eiPending := true } else { after len cost s with ime := true }) := by
  rw [retire, enableInterrupts_advancePc]
  split <;> rfl

theorem retire_disableInterrupts : retire len cost disableInterrupts s =
    .next { after len cost s with ime := false, eiPending := false } := rfl

/-- PC's advance changes nothing that HALT tests. -/
theorem haltCpu_advancePc : haltCpu (s.advancePc len) =
    if s.cfg.haltBug = true ∧ s.ime = false ∧ pending s ≠ 0 then { s.advancePc len with haltBug := true }
    else { s.advancePc len with halted := true } := rfl

/-- `halt_bug` is clear when HALT takes effect, so where it ends set HALT has set it (60_exceptions R531; log 5). -/
theorem retire_haltCpu : retire len cost haltCpu s = .next
    (if s.cfg.haltBug = true ∧ s.ime = false ∧ pending s ≠ 0 then { after len cost s with haltBug := true }
      else { after len cost s with halted := true }) := by
  rw [retire, haltCpu_advancePc]
  split <;> rfl

theorem retire_stopCpu : retire len cost stopCpu s =
    .next { after len cost s with stopped := true, div := 0 } := rfl

end

/-- Settles O31: each form retires its effect on the flags or on IME, NOP none. -/
theorem plainControl : Obligations.PlainControl := fun s =>
  ⟨⟨rfl, retire_id 1 4 s⟩, ⟨rfl, retire_setCarry 1 4 s⟩, ⟨rfl, retire_flipCarry 1 4 s⟩,
    ⟨rfl, retire_enableInterrupts 1 4 s⟩, ⟨rfl, retire_disableInterrupts 1 4 s⟩⟩

/-- Settles O32: HALT retires `haltCpu`, STOP `stopCpu` whatever its second byte. -/
theorem haltAndStop : Obligations.HaltAndStop := fun s =>
  ⟨⟨rfl, retire_haltCpu 1 4 s⟩, fun _ => ⟨rfl, retire_stopCpu 2 4 s⟩⟩

end Sys2Proof.Machine

/-! SUPPORT. The step: the way each step goes, the dispatch of an interrupt, the decode fault and the commit of a pending
EI. -/

namespace Sys2Proof.Machine
open Sys2Proof.Claims

/-! ## The ways a step can go (60_exceptions R500) -/

theorem step_of_fault {s : State} (hf : s.fault ≠ none) : step s = .next s :=
  if_pos (Option.isSome_iff_ne_none.2 hf)

section
variable {s : State} (hf : s.fault = none)
include hf

theorem step_of_stopped (hs : s.stopped = true) : step s = .next (s.charge 4) := by
  simp [step, stepWith, hf, hs]

theorem step_of_waiting (hs : s.stopped = false) (hh : s.halted = true) (hp : pending s = 0) :
    step s = .next (advance 4 (s.charge 4)) := by
  unfold step stepWith
  rw [hf, hs, if_neg (by decide), if_neg (by decide), if_pos ⟨hh, hp⟩]

/-- A CPU that does not wait runs with `halted` clear: a wake from HALT needs no more (60_exceptions R530). -/
theorem step_of_awake (hs : s.stopped = false) (hh : s.halted = true → pending s ≠ 0) :
    step s = runOne exec { s with halted := false } := by
  unfold step stepWith
  rw [hf, hs, if_neg (by decide), if_neg (by decide), if_neg fun h => hh h.1 h.2]

theorem step_of_interrupt (hs : s.stopped = false) (hi : s.ime = true) (hp : pending s ≠ 0) :
    step s = .next (advance 24 ((dispatchInterrupt { s with halted := false }).charge 24)) :=
  (step_of_awake hf hs fun _ => hp).trans (if_pos ⟨hi, hp⟩)

end

/-- The bytes fetched do not depend on `halted`, nor does what follows the instruction. -/
theorem step_of_runs {s u : State} (h : runs s) (hu : exec (fetch s) { s with halted := false } = .next u) :
    step s = .next (finishStep s u) := by
  obtain ⟨hf, hs, hh, hi⟩ := h
  have hu' : exec (fetch { s with halted := false }) { s with halted := false } = .next u := hu
  rw [step_of_awake hf hs hh, runOne, if_neg fun h => h.2 (hi h.1), hu']
  rfl

/-- Settles O38, by the way each step goes. -/
theorem stepAlwaysAnswers : Obligations.StepAlwaysAnswers := by
  refine ⟨exec_next, fun s => ?_⟩
  by_cases hf : s.fault = none
  case neg => exact ⟨_, step_of_fault hf⟩
  by_cases hs : s.stopped = true
  case pos => exact ⟨_, step_of_stopped hf hs⟩
  rw [Bool.not_eq_true] at hs
  by_cases hw : s.halted = true ∧ pending s = 0
  case pos => exact ⟨_, step_of_waiting hf hs hw.1 hw.2⟩
  by_cases hi : s.ime = true ∧ pending s ≠ 0
  case pos => exact ⟨_, step_of_interrupt hf hs hi.1 hi.2⟩
  obtain ⟨u, hu⟩ := exec_next (fetch s) { s with halted := false }
  exact ⟨_, step_of_runs ⟨hf, hs, fun h hp => hw ⟨h, hp⟩, fun h => not_not.1 fun hp => hi ⟨h, hp⟩⟩ hu⟩

/-- Settles O37, by the way each step goes; a halted step with something pending goes on as one not halted. -/
theorem stepsWithoutInstruction : Obligations.StepsWithoutInstruction := by
  refine fun s => ⟨fun hf => step_of_waiting hf, fun hf hs _ hp => ?_, fun hf => step_of_stopped hf, step_of_fault⟩
  rw [step_of_awake hf hs fun _ => hp, step_of_awake (s := { s with halted := false }) hf hs nofun]

/-! ## Taking an interrupt (60_exceptions R514 to R516) -/

theorem getLsbD_pending (s : State) (j : Nat) : (pending s).getLsbD j =
    ((s.cell 0xFF0F).getLsbD j && (s.cell 0xFFFF).getLsbD j && decide (j < 5)) := by
  have hmask : (0x1F : Byte).getLsbD j = decide (j < 5) := by
    by_cases hj : j < 8
    · revert j; decide
    · rw [BitVec.getLsbD_of_ge _ _ (by omega), decide_eq_false (by omega)]
  rw [pending_def, BitVec.getLsbD_and, BitVec.getLsbD_and, hmask]

theorem lowestPending_eq {p : Byte} {k : Nat} (hk : k < 5) (hp : p.getLsbD k = true)
    (hlow : ∀ j, j < k → p.getLsbD j = false) : lowestPending p = k := by
  unfold lowestPending
  interval_cases k <;> simp (disch := decide) only [hp, hlow, if_true, Bool.false_eq_true, if_false]

/-- The state a dispatch leaves: IF written as a cell, the return address pushed, the cost charged before the push. -/
theorem dispatchInterrupt_charge {s : State} {k : Nat} (hk : lowestPending (pending s) = k) (n : Nat) :
    (dispatchInterrupt s).charge n =
      { pushed (if s.haltBug then s.pc - 1 else s.pc)
          (State.charge { s with
            ime := false, eiPending := false, haltBug := false
            mem := s.mem.write 0xFF0F (s.cell 0xFF0F &&& ~~~(1#8 <<< k)) } n) with
        pc := BitVec.ofNat 16 (0x40 + 8 * k) } := by
  rw [← push16_eq_pushed, push16_charge, ← bitMask_eq_shiftLeft, ← hk]
  rfl

/-- Settles O36: the lowest pending bit is the one dispatched. -/
theorem interruptDispatch : Obligations.InterruptDispatch := by
  refine ⟨getLsbD_pending, fun s k hf hs hi hk hlow => ?_⟩
  have hne : pending s ≠ 0 := fun h => by rw [h] at hk; cases hk.symm.trans BitVec.getLsbD_zero
  have hk5 : k < 5 := by
    rw [getLsbD_pending, Bool.and_eq_true, decide_eq_true_eq] at hk
    exact hk.2
  have hlowest : lowestPending (pending { s with halted := false }) = k := lowestPending_eq hk5 hk hlow
  rw [step_of_interrupt hf hs hi hne, dispatchInterrupt_charge hlowest]
  rfl

/-! ## Running an instruction -/

/-- The bytes fetched decode to a legal instruction only as the fetch itself does. -/
theorem fetch_of_decodeBytes {s : State} {i : Instr} {rest : List Byte} (h : decodeBytes (fetched s) = .ok (i, rest)) :
    fetch s = i ∧ i.wellFormed = true := by
  by_cases hw : (fetch s).wellFormed = true
  case pos =>
    obtain ⟨_, hd⟩ := decodeBytes_fetched s hw
    cases hd.symm.trans h
    exact ⟨rfl, hw⟩
  case neg =>
    have hd : decodeBytes (fetched s) = .error (.unknownOpcode (readByte s s.pc)) := if_neg hw
    cases hd.symm.trans h

/-- A legal instruction raises no fault. -/
theorem exec_fault_of_wellFormed {i : Instr} {s u : State} (hw : i.wellFormed = true) (hu : exec i s = .next u) :
    u.fault = s.fault := by
  rcases exec_cases i s with ⟨_, len, cost, eff, heff, hi⟩ | ⟨op, hop, _⟩
  · cases hi.symm.trans hu
    exact sharedEffect_fault heff (s.advancePc len)
  · rw [wellFormed_of_illegalByte hop] at hw
    cases hw

theorem finishStep_of_noFault {s u : State} (hu : u.fault = none) :
    finishStep s u = advance (u.cycles - s.cycles) (commitEi s.eiPending u) :=
  if_neg (by rw [hu]; decide)

/-- A step that runs a legal instruction: its effect, the commit of a pending EI, the devices for its cost. -/
theorem step_of_legal {s : State} (h : runs s) (hw : (fetch s).wellFormed = true) :
    ∃ u, exec (fetch s) { s with halted := false } = .next u ∧ u.fault = none ∧
      step s = .next (advance (u.cycles - s.cycles) (commitEi s.eiPending u)) := by
  obtain ⟨u, hu⟩ := exec_next (fetch s) { s with halted := false }
  have hf : u.fault = none := (exec_fault_of_wellFormed hw hu).trans h.1
  exact ⟨u, hu, hf, by rw [step_of_runs h hu, finishStep_of_noFault hf]⟩

/-- Settles O35: the step fetches what the bytes decode to. -/
theorem stepRunsDecodedInstruction : Obligations.StepRunsDecodedInstruction := by
  intro s i rest hr hd
  obtain ⟨rfl, hw⟩ := fetch_of_decodeBytes hd
  exact step_of_legal hr hw

/-! ## The decode fault (60_exceptions R540) -/

/-- The opcode alone says whether a cell of the unprefixed map spells an instruction, whatever its operands (30_encoding
R159, R162). -/
theorem unprefixed_illegalByte (op x y : Byte) : ((unprefixedCell op).instr x y).illegalByte =
    if op ∈ illegalBytes then some op else none := by
  obtain ⟨n, hn, rfl⟩ : ∃ n < 256, op = BitVec.ofNat 8 n := ⟨op.toNat, op.isLt, by simp⟩
  interval_cases n <;> rfl

theorem prefixed_illegalByte : ∀ op : Byte, (prefixedInstr op).illegalByte = none := by decide +kernel

theorem decode3_illegalByte (op x y : Byte) : (decode3 op x y).illegalByte =
    if op ∈ illegalBytes then some op else none := by
  unfold decode3
  split
  case isTrue h => subst h; exact prefixed_illegalByte x
  case isFalse => exact unprefixed_illegalByte op x y

theorem wellFormed_of_illegalByte_eq_none {i : Instr} (h : i.illegalByte = none) : i.wellFormed = true := by
  rw [Instr.wellFormed, h, Option.isNone_none]

@[simp] theorem commitEi_fault (armed : Bool) (s : State) : (commitEi armed s).fault = s.fault := by
  unfold commitEi
  split <;> rfl

/-- A step that runs an illegal byte records the fault and nothing else. -/
theorem step_of_illegal {s : State} (h : runs s) (hb : readByte s s.pc ∈ illegalBytes) :
    step s = .next { s with halted := false, fault := some (.unknownOpcode (readByte s s.pc) s.pc) } := by
  have hi : (fetch s).illegalByte = some (readByte s s.pc) := (decode3_illegalByte _ _ _).trans (if_pos hb)
  rw [step_of_runs h (exec_of_illegalByte hi _)]
  rfl

/-- A step that runs a legal instruction leaves no fault. -/
theorem step_fault_of_legal {s t : State} (h : runs s) (hb : readByte s s.pc ∉ illegalBytes) (ht : step s = .next t) :
    t.fault = none := by
  have hi : (fetch s).illegalByte = none := (decode3_illegalByte _ _ _).trans (if_neg hb)
  obtain ⟨u, _, hf, hu⟩ := step_of_legal h (wellFormed_of_illegalByte_eq_none hi)
  cases hu.symm.trans ht
  rw [advance_fault, commitEi_fault, hf]

/-- A step that runs no instruction leaves no fault. -/
theorem step_fault_of_not_runs {s t : State} (hf : s.fault = none) (h : ¬ runs s) (ht : step s = .next t) :
    t.fault = none := by
  rcases step_cases ht with ⟨hf', _⟩ | ⟨_, _, rfl⟩ | ⟨_, _, _, _, rfl⟩ | ⟨_, _, _, _, rfl⟩ | ⟨_, hs, hh, hi, _⟩
  · exact absurd hf hf'
  · exact hf
  · rw [advance_fault]; exact hf
  · rw [advance_fault]; simpa [dispatchInterrupt] using hf
  · exact absurd ⟨hf, hs, fun h0 hp => hh ⟨h0, hp⟩, fun h0 => not_not.1 fun hp => hi ⟨h0, hp⟩⟩ h

/-- Settles O34, by whether the step runs an instruction and whether its opcode spells one. -/
theorem faultOnlyFromIllegalByte : Obligations.FaultOnlyFromIllegalByte := by
  refine ⟨fun s t hf ht => ?_, fun s hf => step_of_fault hf, fun f => by cases f; rfl⟩
  by_cases hr : runs s
  case neg =>
    have h := step_fault_of_not_runs hf hr ht
    exact ⟨⟨fun hn => absurd h hn, fun hn => absurd hn.1 hr⟩, fun hn => absurd h hn⟩
  by_cases hb : readByte s s.pc ∈ illegalBytes
  case neg =>
    have h := step_fault_of_legal hr hb ht
    exact ⟨⟨fun hn => absurd h hn, fun hn => absurd hn.2 hb⟩, fun hn => absurd h hn⟩
  cases (step_of_illegal hr hb).symm.trans ht
  exact ⟨⟨fun _ => ⟨hr, hb⟩, fun _ => Option.some_ne_none _⟩, fun _ => rfl⟩

/-! ## The pending EI (60_exceptions R503) -/

/-- The instruction retires an effect that leaves IME, the pending EI and `halt_bug` alone. -/
def RetiresControlFree (i : Instr) (s : State) : Prop :=
  ∃ len cost eff, KeepsControl eff ∧ exec i s = retire len cost eff s

section
variable {i : Instr} {s : State} {len cost n : Nat} {eff : State → State}

theorem RetiresControlFree.of_retire (h : exec i s = retire len cost eff s) (hk : KeepsControl eff) :
    RetiresControlFree i s := ⟨len, cost, eff, hk, h⟩

theorem RetiresControlFree.of_retireIf {c : State → Bool} (h : exec i s = retireIf c len n cost eff s)
    (hk : KeepsControl eff) : RetiresControlFree i s := by
  unfold retireIf at h
  split at h
  · exact .of_retire h hk
  · exact .of_retire h fun _ => ⟨rfl, rfl, rfl⟩

end

/-- Every legal instruction but EI, DI, HALT and RETI leaves the control fields alone. The forms that write the bus go by
the law of their write, since a write's range depends on its address; the rest compute. -/
theorem retiresControlFree {i : Instr} (hw : i.wellFormed = true) (hei : i ≠ .ei) (hdi : i ≠ .di) (hhalt : i ≠ .halt)
    (hreti : i ≠ .reti) (s : State) : RetiresControlFree i s := by
  cases i
  case ei => exact absurd rfl hei
  case di => exact absurd rfl hdi
  case halt => exact absurd rfl hhalt
  case reti => exact absurd rfl hreti
  case illegal_D3 | illegal_DB | illegal_DD | illegal_E3 | illegal_E4 | illegal_EB | illegal_EC | illegal_ED | illegal_F4
    | illegal_FC | illegal_FD => cases hw
  case jr_NZ_e8 | jr_Z_e8 | jr_NC_e8 | jr_C_e8 | jp_NZ_a16 | jp_Z_a16 | jp_NC_a16 | jp_C_a16 | ret_NZ | ret_Z | ret_NC
    | ret_C => exact .of_retireIf rfl fun _ => ⟨rfl, rfl, rfl⟩
  case call_NZ_a16 | call_Z_a16 | call_NC_a16 | call_C_a16 => exact .of_retireIf rfl (callTo_control _)
  case call_a16 | rst_00H | rst_08H | rst_10H | rst_18H | rst_20H | rst_28H | rst_30H | rst_38H =>
    exact .of_retire rfl (callTo_control _)
  case push_AF | push_BC | push_DE | push_HL => exact .of_retire rfl (pushR16_control _)
  case ld_atBC_A | ld_atDE_A | ld_atA16_A | ldh_atA8_A | ld_atC_A => exact .of_retire rfl (storeA_control _)
  case ld_atA16_SP => exact .of_retire rfl (storeSP_control _)
  case inc_atHL | dec_atHL | ld_atHL_d8 | ld_atHL_B | ld_atHL_C | ld_atHL_D | ld_atHL_E | ld_atHL_H | ld_atHL_L | ld_atHL_A
    | ld_atHLinc_A | ld_atHLdec_A | rlc_atHL | rrc_atHL | rl_atHL | rr_atHL | sla_atHL | sra_atHL | swap_atHL | srl_atHL
    | res_0_atHL | res_1_atHL | res_2_atHL | res_3_atHL | res_4_atHL | res_5_atHL | res_6_atHL | res_7_atHL
    | set_0_atHL | set_1_atHL | set_2_atHL | set_3_atHL | set_4_atHL | set_5_atHL | set_6_atHL | set_7_atHL =>
    exact .of_retire rfl fun s => dst_control .atHL _ s
  all_goals exact .of_retire rfl fun _ => ⟨rfl, rfl, rfl⟩

/-- HALT leaves a pending EI as it is. -/
theorem haltCpu_eiPending (s : State) : (haltCpu s).eiPending = s.eiPending := by
  unfold haltCpu
  split <;> rfl

theorem enableInterrupts_eiPending {s : State} (hp : s.eiPending = true) : (enableInterrupts s).eiPending = true := by
  unfold enableInterrupts
  split
  · rfl
  · exact hp

/-- An EI pending before an instruction is so after it, unless the instruction is DI or RETI. -/
theorem exec_eiPending {i : Instr} {s u : State} (hw : i.wellFormed = true) (hdi : i ≠ .di) (hreti : i ≠ .reti)
    (hp : s.eiPending = true) (hu : exec i s = .next u) : u.eiPending = true := by
  by_cases hei : i = .ei
  case pos =>
    subst hei
    cases hu
    exact enableInterrupts_eiPending (s := s.advancePc 1) hp
  by_cases hhalt : i = .halt
  case pos =>
    subst hhalt
    cases hu
    exact (haltCpu_eiPending (s.advancePc 1)).trans hp
  obtain ⟨len, cost, eff, hk, he⟩ := retiresControlFree hw hei hdi hhalt hreti s
  cases he.symm.trans hu
  exact (hk (s.advancePc len)).2.1.trans hp

/-- The commit sets IME and clears the pending EI, unless DI or RETI has cleared it already, which also write IME. -/
theorem commitEi_exec {i : Instr} {s u : State} (hw : i.wellFormed = true) (hp : s.eiPending = true)
    (hu : exec i s = .next u) :
    (commitEi true u).eiPending = false ∧ ((commitEi true u).ime = true ↔ i ≠ .di) := by
  by_cases hdi : i = .di
  case pos =>
    subst hdi
    cases hu
    exact ⟨rfl, nofun, fun h => absurd rfl h⟩
  by_cases hreti : i = .reti
  case pos =>
    subst hreti
    cases hu
    exact ⟨rfl, fun _ => hdi, fun _ => rfl⟩
  rw [commitEi, if_pos ⟨rfl, exec_eiPending hw hdi hreti hp hu⟩]
  exact ⟨rfl, fun _ => hdi, fun _ => rfl⟩

/-- Settles O39: the step commits the EI after the instruction, and the advance leaves the CPU alone. -/
theorem eiTakesEffectAfterNextInstruction : Obligations.EiTakesEffectAfterNextInstruction := by
  intro s t i rest hr hp hd ht
  obtain ⟨rfl, hw⟩ := fetch_of_decodeBytes hd
  obtain ⟨u, hu, _, hstep⟩ := step_of_legal hr hw
  cases hstep.symm.trans ht
  rw [hp, advance_eiPending, advance_ime]
  exact commitEi_exec (s := { s with halted := false }) hw hp hu

end Sys2Proof.Machine

/-! SUPPORT. The joypad, the divider and the timer. -/

namespace Sys2Proof.Machine
open Sys2Proof.Claims

/-! ## The joypad (60_exceptions R550, R551) -/

/-- A line of the selected group reads 0 exactly when its button is pressed. -/
theorem joypadLines_getLsbD (selected b0 b1 b2 b3 : Bool) : ∀ k, k < 4 →
    (joypadLines selected b0 b1 b2 b3).getLsbD k = !(selected && [b0, b1, b2, b3].getD k false) := by
  revert selected b0 b1 b2 b3
  decide

/-- The lines are the low nibble alone. -/
theorem joypadLines_getLsbD_high (selected b0 b1 b2 b3 : Bool) :
    (joypadLines selected b0 b1 b2 b3).getLsbD 4 = false ∧ (joypadLines selected b0 b1 b2 b3).getLsbD 5 = false := by
  revert selected b0 b1 b2 b3
  decide

theorem direction_eq_getD (s : State) (k : Nat) : direction s k =
    [s.buttons.right, s.buttons.left, s.buttons.up, s.buttons.down].getD k false := by
  rcases k with _ | _ | _ | _ | _ <;> rfl

theorem action_eq_getD (s : State) (k : Nat) : action s k =
    [s.buttons.a, s.buttons.b, s.buttons.select, s.buttons.start].getD k false := by
  rcases k with _ | _ | _ | _ | _ <;> rfl

/-- A line is low when the direction or the action button on it is selected and pressed (60_exceptions R550). -/
theorem joypadRead_line (s : State) (k : Nat) (hk : k < 4) : (joypadRead s).getLsbD k =
    !((!(s.cell 0xFF00).getLsbD 4 && direction s k) || (!(s.cell 0xFF00).getLsbD 5 && action s k)) := by
  have hfixed : ∀ j, j < 4 → (0xC0 : Byte).getLsbD j = false ∧ (0x30 : Byte).getLsbD j = false := by decide
  obtain ⟨hhigh, hselect⟩ := hfixed k hk
  simp only [joypadRead, BitVec.getLsbD_or, BitVec.getLsbD_and, joypadLines_getLsbD _ _ _ _ _ k hk, hhigh, hselect,
    direction_eq_getD, action_eq_getD, Bool.and_false, Bool.false_or, Bool.not_or]

/-- Bits 7 and 6 are fixed, bits 5 and 4 those of the cell (60_exceptions R550). -/
theorem joypadRead_high (s : State) : (joypadRead s).getLsbD 7 = true ∧ (joypadRead s).getLsbD 6 = true ∧
    (joypadRead s).getLsbD 5 = (s.cell 0xFF00).getLsbD 5 ∧ (joypadRead s).getLsbD 4 = (s.cell 0xFF00).getLsbD 4 := by
  have hfixed : (0xC0 : Byte).getLsbD 7 = true ∧ (0xC0 : Byte).getLsbD 6 = true ∧ (0xC0 : Byte).getLsbD 5 = false ∧
      (0xC0 : Byte).getLsbD 4 = false := by decide
  have hselect : (0x30 : Byte).getLsbD 5 = true ∧ (0x30 : Byte).getLsbD 4 = true := by decide
  simp only [joypadRead, BitVec.getLsbD_or, BitVec.getLsbD_and, joypadLines_getLsbD_high, hfixed, hselect, Bool.true_or,
    Bool.false_or, Bool.and_true, Bool.and_false, Bool.or_false, and_self]

theorem Buttons.get_put (k : Buttons) (button q : Button) (pressed : Bool) :
    (k.put button pressed).get q = if q = button then pressed else k.get q := by
  cases button <;> cases q <;> rfl

theorem groupBit_eq (button : Button) : button.groupBit = if isDirection button then 4 else 5 := by
  cases button <;> rfl

/-- A button change in one record, whatever of its effects happen (60_exceptions R551). -/
theorem joypadSet_eq (button : Button) (pressed : Bool) (s : State) : joypadSet button pressed s =
    { s with
      buttons := s.buttons.put button pressed
      mem := if (pressed && !s.buttons.get button) && !(s.cell 0xFF00).getLsbD button.groupBit
        then s.mem.write 0xFF0F (s.cell 0xFF0F ||| 0x10) else s.mem
      stopped := s.stopped && !(pressed && !s.buttons.get button) } := by
  unfold joypadSet
  cases pressed && !s.buttons.get button
  case false =>
    rw [Bool.not_false, Bool.and_true]
    rfl
  case true =>
    rw [Bool.not_true, Bool.and_false]
    cases (s.cell 0xFF00).getLsbD button.groupBit <;> rfl

/-- Settles O44, by the bits of a read and by the record a button change leaves. -/
theorem joypadReadAndPress : Obligations.JoypadReadAndPress := by
  refine ⟨fun s => ?_, fun s button pressed => ?_⟩
  · obtain ⟨h7, h6, h5, h4⟩ := joypadRead_high s
    exact ⟨h7, h6, h5, h4, joypadRead_line s⟩
  · rw [← groupBit_eq, joypadSet_eq]
    exact ⟨fun q => Buttons.get_put _ _ _ _, rfl⟩

/-! ## The divider (60_exceptions R560) -/

theorem advance_div (n : Nat) (s : State) : (advance n s).div = s.div + BitVec.ofNat 16 n := by
  induction n generalizing s with
  | zero => exact (BitVec.add_zero s.div).symm
  | succ n ih =>
    rw [advance, ih, ppuDot_div, timerCycle_div, Nat.add_comm n 1, BitVec.ofNat_add, BitVec.add_assoc]
    rfl

/-- Settles O45, the count by induction over the advance. -/
theorem dividerAdvances : Obligations.DividerAdvances := by
  refine ⟨advance_div, fun s => ?_, fun _ _ => rfl, fun s _ => ⟨_, retire_stopCpu 2 4 s, rfl⟩⟩
  obtain ⟨_, _, _, hdiv, _⟩ := busRead s 0xFF04
  exact hdiv rfl

/-! ## TIMA (60_exceptions R561, R562) -/

/-- The period in cycles that TAC bits 1 and 0 select (60_exceptions R562). -/
def timerPeriod (tac : Byte) : Nat :=
  if tac.toNat % 4 = 0 then 1024 else if tac.toNat % 4 = 1 then 16 else if tac.toNat % 4 = 2 then 64 else 256

theorem timerBit_period : ∀ tac : Byte, timerBit tac < 16 ∧ 2 ^ (timerBit tac + 1) = timerPeriod tac := by
  decide +kernel

/-- Whether this cycle clocks TIMA. -/
def timerTicks (s : State) : Bool :=
  (s.cell 0xFF07).getLsbD 2 && decide ((s.div.toNat + 1) % timerPeriod (s.cell 0xFF07) = 0)

/-- The edge that the timer looks for falls once a period (60_exceptions R561, R562). -/
theorem timerCycle_eq (s : State) : timerCycle s =
    if timerTicks s then timaTick { s with div := s.div + 1 } else { s with div := s.div + 1 } := by
  obtain ⟨hbit, hperiod⟩ := timerBit_period (s.cell 0xFF07)
  have hticks : timerTicks s = true ↔ (s.cell 0xFF07).getLsbD 2 = true ∧
      s.div.getLsbD (timerBit (s.cell 0xFF07)) = true ∧ (s.div + 1).getLsbD (timerBit (s.cell 0xFF07)) = false := by
    rw [falling_edge s.div _ hbit, hperiod, timerTicks, Bool.and_eq_true, decide_eq_true_eq]
  exact if_congr hticks.symm rfl rfl

theorem requestInterrupt_cell_IF (k : Nat) (s : State) (h : s.mem.wf = true) :
    (requestInterrupt k s).cell 0xFF0F = s.cell 0xFF0F ||| BitVec.ofNat 8 (2 ^ k) :=
  State.cell_setCell_same s _ _ h

theorem timaTick_TIMA {s : State} (h : s.mem.wf = true) : (timaTick s).cell 0xFF05 =
    if s.cell 0xFF05 = 0xFF then s.cell 0xFF06 else s.cell 0xFF05 + 1 := by
  unfold timaTick
  dsimp only
  split
  · rw [requestInterrupt_cell _ _ _ (by decide), State.cell_setCell_same _ _ _ h]
  · rw [State.cell_setCell_same _ _ _ h]

theorem timaTick_IF {s : State} (h : s.mem.wf = true) : (timaTick s).cell 0xFF0F =
    if s.cell 0xFF05 = 0xFF then s.cell 0xFF0F ||| 0x04 else s.cell 0xFF0F := by
  unfold timaTick
  dsimp only
  split
  · rw [requestInterrupt_cell_IF _ _ (State.setCell_wf _ _ _ h (by decide)), State.cell_setCell_other _ _ _ _ (by decide)]
    rfl
  · rw [State.cell_setCell_other _ _ _ _ (by decide)]

theorem timerCycle_TIMA {s : State} (h : s.mem.wf = true) : (timerCycle s).cell 0xFF05 =
    if timerTicks s then (if s.cell 0xFF05 = 0xFF then s.cell 0xFF06 else s.cell 0xFF05 + 1) else s.cell 0xFF05 := by
  rw [timerCycle_eq]
  split
  · exact timaTick_TIMA (s := { s with div := s.div + 1 }) h
  · rfl

theorem timerCycle_IF {s : State} (h : s.mem.wf = true) : (timerCycle s).cell 0xFF0F =
    if timerTicks s && decide (s.cell 0xFF05 = 0xFF) then s.cell 0xFF0F ||| 0x04 else s.cell 0xFF0F := by
  rw [timerCycle_eq]
  cases timerTicks s
  case false => rfl
  case true =>
    simp only [Bool.true_and, decide_eq_true_eq]
    exact timaTick_IF (s := { s with div := s.div + 1 }) h

/-- Settles O46, by whether the cycle clocks TIMA. -/
theorem timerTicksAtSelectedRate : Obligations.TimerTicksAtSelectedRate := by
  intro s hm
  refine ⟨?_, ?_, ?_, fun y => timerCycle_cell s y⟩
  · obtain ⟨m, d, e⟩ := timerCycle_only s
    have hd : d = s.div + 1 := by rw [← timerCycle_div s, e]
    rw [e, hd]
  · exact timerCycle_TIMA hm
  · exact timerCycle_IF hm

end Sys2Proof.Machine

/-! SUPPORT. The PPU's timing: its position, the frames it counts, the vertical blank, STAT and LY. -/

namespace Sys2Proof.Machine
open Sys2Proof.Claims

/-! ## Position and frames (60_exceptions R571, R572) -/

/-- The timer moves no position. -/
theorem position_timerCycle (s : State) : position (timerCycle s) = position s := by simp [position]

/-- How many vertical blanks, at line 144 dot 0 of each frame, lie before position `p` when positions count on over frames. -/
def blanksBefore (p : Nat) : Nat := (p + 4559) / 70224

section
variable {s : State} (hd : s.dot < 456) (hl : s.line < 154)
include hd hl

/-- One cycle of the devices moves the position by one. -/
theorem position_cycle : position (ppuDot (timerCycle s)) = (position s + 1) % 70224 ∧
    (ppuDot (timerCycle s)).dot < 456 ∧ (ppuDot (timerCycle s)).line < 154 := by
  rw [← position_timerCycle s]
  exact ppuDot_position (timerCycle s) (by simpa using hd) (by simpa using hl)

/-- One cycle of the devices counts the vertical blank it starts from, if any. -/
theorem frameCount_cycle : (ppuDot (timerCycle s)).frameCount + blanksBefore (position s) =
    s.frameCount + blanksBefore (position s + 1) := by
  have h := ppuDot_frameCount (timerCycle s)
  rw [timerCycle_dot, timerCycle_line, timerCycle_frameCount] at h
  rw [h]
  unfold blanksBefore position
  split <;> omega

end

theorem position_advance (n : Nat) {s : State} (hd : s.dot < 456) (hl : s.line < 154) :
    position (advance n s) = (position s + n) % 70224 := by
  induction n generalizing s with
  | zero =>
    rw [advance, position]
    omega
  | succ n ih =>
    obtain ⟨hp, hd', hl'⟩ := position_cycle hd hl
    rw [advance, ih hd' hl', hp]
    omega

/-- The advance counts the vertical blanks it passes. -/
theorem frameCount_advance (n : Nat) {s : State} (hd : s.dot < 456) (hl : s.line < 154) :
    (advance n s).frameCount + blanksBefore (position s) = s.frameCount + blanksBefore (position s + n) := by
  induction n generalizing s with
  | zero => rw [advance, Nat.add_zero]
  | succ n ih =>
    obtain ⟨hp, hd', hl'⟩ := position_cycle hd hl
    have hrest := ih hd' hl'
    have hfirst := frameCount_cycle hd hl
    rw [hp] at hrest
    rw [advance]
    unfold blanksBefore at *
    omega

/-- Settles O47, both parts by induction over the advance. -/
theorem ppuPositionAndFrames : Obligations.PpuPositionAndFrames := by
  intro s hd hl
  refine ⟨fun n => ⟨position_advance n hd hl, advance_dot_line n s hd hl⟩, fun k => ?_⟩
  have h := frameCount_advance (70224 * k) hd hl
  unfold blanksBefore at h
  omega

/-! ## The start of a line (60_exceptions R571, R572) -/

/-- A request of bit `k` sets that bit of IF and no other. -/
theorem requestInterrupt_IF_bit {k : Nat} (hk : k < 8) (j : Nat) {s : State} (h : s.mem.wf = true) :
    ((requestInterrupt k s).cell 0xFF0F).getLsbD j = ((s.cell 0xFF0F).getLsbD j || decide (j = k)) := by
  have hbit : (BitVec.ofNat 8 (2 ^ k)).getLsbD j = decide (j = k) := by
    rw [BitVec.getLsbD_ofNat, Nat.testBit_two_pow]
    by_cases e : k = j
    · simp [e, e ▸ hk]
    · simp [e, Ne.symm e]
  rw [requestInterrupt_cell_IF k s h, BitVec.getLsbD_or, hbit]

/-- The cells after the start of a line: LY written, and IF requested at line 144. -/
theorem lineStart_cell_eq (s : State) (y : Nat) : (lineStart s).cell y =
    if s.line = 144 then (requestInterrupt 0 (s.setCell 0xFF44 (BitVec.ofNat 8 s.line))).cell y
    else (s.setCell 0xFF44 (BitVec.ofNat 8 s.line)).cell y := by
  unfold lineStart
  by_cases h0 : s.line = 0
  · simp only [h0, if_true]
    rfl
  · simp only [h0, if_false]
    split <;> rfl

/-- The vertical blank requests its interrupt, bit 0. -/
theorem ppuEntered_IF_bit (j : Nat) {s : State} (h : s.mem.wf = true) : ((ppuEntered s).cell 0xFF0F).getLsbD j =
    ((s.cell 0xFF0F).getLsbD j || (decide (j = 0) && decide (s.line = 144 ∧ s.dot = 0))) := by
  have hly (v : Byte) : (s.setCell 0xFF44 v).cell 0xFF0F = s.cell 0xFF0F := State.cell_setCell_other s _ _ v (by decide)
  unfold ppuEntered
  by_cases hd : s.dot = 0
  case neg => simp [hd]
  rw [if_pos hd, lineStart_cell_eq]
  by_cases hl : s.line = 144
  case neg => simp [hl, hly]
  rw [if_pos hl, requestInterrupt_IF_bit (by decide) j (State.setCell_wf s _ _ h (by decide)), hly]
  simp [hd, hl]

theorem ppuEntered_LY {s : State} (h : s.mem.wf = true) : (ppuEntered s).cell 0xFF44 =
    if s.dot = 0 then BitVec.ofNat 8 s.line else s.cell 0xFF44 := by
  unfold ppuEntered
  by_cases hd : s.dot = 0
  case neg => rw [if_neg hd, if_neg hd]
  rw [if_pos hd, if_pos hd, lineStart_cell_eq, requestInterrupt_cell _ _ _ (by decide), ite_self,
    State.cell_setCell_same s _ _ h]

/-! ## STAT (60_exceptions R574, R575) -/

theorem ppuMode_eq (line dot : Nat) : ppuMode line dot = BitVec.ofNat 2 (modeAt line dot) := by
  unfold ppuMode modeAt
  split
  · rfl
  · split
    · rfl
    · split <;> rfl

theorem modeAt_lt (line dot : Nat) : modeAt line dot < 4 := by
  unfold modeAt
  split
  · decide
  · split
    · decide
    · split <;> decide

/-- STAT with its bits 7 to 3 kept. -/
def statOf (v : Byte) (coincidence : Bool) (mode : BitVec 2) : Byte :=
  (v &&& 0xF8) ||| (BitVec.ofBool coincidence ++ mode).setWidth 8

theorem statOf_toNat : ∀ (v : Byte) (c : Bool) (m : BitVec 2),
    (statOf v c m).toNat = v.toNat / 8 * 8 + (if c then 4 else 0) + m.toNat := by
  decide +kernel

/-- The STAT interrupt line for a value of STAT (60_exceptions R575). -/
def statSignalOf (v : Byte) (coincidence : Bool) (mode : BitVec 2) : Bool :=
  (v.getLsbD 3 && mode == 0) || (v.getLsbD 4 && mode == 1) || (v.getLsbD 5 && mode == 2) || (v.getLsbD 6 && coincidence)

/-- The line depends on the select bits of STAT, which the update keeps. -/
theorem statSignalOf_statOf : ∀ (v : Byte) (c : Bool) (m : BitVec 2),
    statSignalOf (statOf v c m) c m = statSignalOf v c m := by
  decide +kernel

theorem mode_beq {line dot k : Nat} (hk : k < 4) :
    (ppuMode line dot == BitVec.ofNat 2 k) = decide (modeAt line dot = k) := by
  have h := modeAt_lt line dot
  rw [ppuMode_eq]
  generalize modeAt line dot = m at *
  revert m k
  decide

theorem statSignalOf_eq_statSignal (s : State) : statSignalOf (s.cell 0xFF41)
    (decide (s.line = (s.cell 0xFF45).toNat)) (ppuMode s.line s.dot) = statSignal s := by
  have h0 := mode_beq (line := s.line) (dot := s.dot) (k := 0) (by decide)
  have h1 := mode_beq (line := s.line) (dot := s.dot) (k := 1) (by decide)
  have h2 := mode_beq (line := s.line) (dot := s.dot) (k := 2) (by decide)
  rw [statSignal, ← h0, ← h1, ← h2]
  rfl

/-- The state with STAT written, before the interrupt line is looked at. -/
def statWritten (s : State) : State :=
  s.setCell 0xFF41 (statOf (s.cell 0xFF41) (decide (s.line = (s.cell 0xFF45).toNat)) (ppuMode s.line s.dot))

theorem updateStat_eq (s : State) : updateStat s =
    { (if statSignal s = true ∧ s.statLine = false then requestInterrupt 1 (statWritten s) else statWritten s) with
      statLine := statSignal s } := by
  rw [← statSignalOf_eq_statSignal, ← statSignalOf_statOf]
  rfl

/-- A rising interrupt line requests bit 1. -/
theorem updateStat_IF_bit (j : Nat) {s : State} (h : s.mem.wf = true) : ((updateStat s).cell 0xFF0F).getLsbD j =
    ((s.cell 0xFF0F).getLsbD j || (decide (j = 1) && (statSignal s && !s.statLine))) := by
  have hkept : (statWritten s).cell 0xFF0F = s.cell 0xFF0F := State.cell_setCell_other s _ _ _ (by decide)
  have hwf : (statWritten s).mem.wf = true := State.setCell_wf s _ _ h (by decide)
  have hset : ((requestInterrupt 1 (statWritten s)).cell 0xFF0F).getLsbD j =
      ((s.cell 0xFF0F).getLsbD j || decide (j = 1)) := by
    rw [requestInterrupt_IF_bit (by decide) j hwf, hkept]
  have hcell : (updateStat s).cell 0xFF0F = (if statSignal s = true ∧ s.statLine = false then
      requestInterrupt 1 (statWritten s) else statWritten s).cell 0xFF0F := by rw [updateStat_eq]; rfl
  rw [hcell]
  cases statSignal s <;> cases s.statLine <;> simp [hset, hkept]

/-- What entering a dot changes is not looked at by the interrupt line. -/
theorem statSignal_drawn (s : State) : statSignal (ppuDrawn (ppuEntered s)) = statSignal s := by
  simp only [statSignal, ppuDrawn_cell, ppuDrawn_line, ppuDrawn_dot, ppuEntered_line, ppuEntered_dot]
  rw [ppuEntered_cell s 0xFF41 (by decide) (by decide), ppuEntered_cell s 0xFF45 (by decide) (by decide)]

/-! ## A whole dot -/

theorem ppuDot_cell_eq (s : State) (y : Nat) : (ppuDot s).cell y = (updateStat (ppuDrawn (ppuEntered s))).cell y := by
  rw [ppuDot_eq, State.cell_def, nextDot_mem]
  rfl

section
variable {s : State} (h : s.mem.wf = true)
include h

theorem ppuDrawn_ppuEntered_wf : (ppuDrawn (ppuEntered s)).mem.wf = true := by
  rw [ppuDrawn_mem]
  exact ppuEntered_wf s h

/-- The two interrupts of the PPU: the vertical blank, bit 0, and a rising line, bit 1. -/
theorem ppuDot_IF_bit (j : Nat) : ((ppuDot s).cell 0xFF0F).getLsbD j =
    ((s.cell 0xFF0F).getLsbD j || (decide (j = 0) && decide (s.line = 144 ∧ s.dot = 0)) ||
      (decide (j = 1) && (statSignal s && !s.statLine))) := by
  rw [ppuDot_cell_eq, updateStat_IF_bit j (ppuDrawn_ppuEntered_wf h), ppuDrawn_cell, ppuEntered_IF_bit j h,
    statSignal_drawn, ppuDrawn_statLine, ppuEntered_statLine]

theorem ppuDot_STAT : (ppuDot s).cell 0xFF41 =
    statOf (s.cell 0xFF41) (decide (s.line = (s.cell 0xFF45).toNat)) (ppuMode s.line s.dot) := by
  rw [ppuDot_cell_eq, updateStat_stat _ (ppuDrawn_ppuEntered_wf h)]
  simp only [ppuDrawn_cell, ppuDrawn_line, ppuDrawn_dot, ppuEntered_line, ppuEntered_dot]
  rw [ppuEntered_cell s 0xFF41 (by decide) (by decide), ppuEntered_cell s 0xFF45 (by decide) (by decide)]
  rfl

theorem ppuDot_LY : (ppuDot s).cell 0xFF44 = if s.dot = 0 then BitVec.ofNat 8 s.line else s.cell 0xFF44 := by
  rw [ppuDot_cell_eq, updateStat_cell _ _ (by decide) (by decide), ppuDrawn_cell, ppuEntered_LY h]

end

theorem ppuDot_presented (s : State) :
    (ppuDot s).presented = if s.dot = 0 ∧ s.line = 144 then s.framebuffer else s.presented := by
  rw [ppuDot_eq, nextDot_presented, updateStat_presented, ppuDrawn_presented, ppuEntered_presented]

theorem ppuDot_statLine (s : State) : (ppuDot s).statLine = statSignal s := by
  rw [ppuDot_eq, nextDot_statLine, updateStat_eq]
  exact statSignal_drawn s

/-- Settles O48: only the start of line 144 touches the three. -/
theorem verticalBlank : Obligations.VerticalBlank := by
  intro s hm
  refine ⟨?_, ?_, ?_⟩
  · rw [ppuDot_IF_bit hm]
    simp
  · rw [ppuDot_frameCount]
    simp only [decide_eq_true_eq, and_comm]
  · rw [ppuDot_presented]
    simp only [decide_eq_true_eq, and_comm]

/-- Settles O49: STAT, the line and LY after a dot. -/
theorem statAndItsInterruptLine : Obligations.StatAndItsInterruptLine := by
  intro s hm hl
  refine ⟨?_, ppuDot_statLine s, ?_, ?_⟩
  · have hmode : (ppuMode s.line s.dot).toNat = modeAt s.line s.dot := by
      rw [ppuMode_eq, BitVec.toNat_ofNat]
      exact Nat.mod_eq_of_lt (modeAt_lt _ _)
    rw [ppuDot_STAT hm, statOf_toNat, hmode]
    simp only [decide_eq_true_eq]
  · rw [ppuDot_IF_bit hm]
    simp
  · rw [ppuDot_LY hm, apply_ite BitVec.toNat, BitVec.toNat_ofNat, Nat.mod_eq_of_lt (by omega)]

end Sys2Proof.Machine

/-! SUPPORT. Drawing: the layers and the sprites of a line in the plain arithmetic of the statements, and a line drawn. -/

namespace Sys2Proof.Machine
open Sys2Proof.Claims

/-! ## Bits of cells -/

theorem bitAt_eq_one {s : State} {x b : Nat} : bitAt s x b = 1 ↔ (s.cell x).getLsbD b = true := by
  unfold bitAt
  cases (s.cell x).getLsbD b <;> decide

theorem bitAt_eq_zero {s : State} {x b : Nat} : bitAt s x b = 0 ↔ (s.cell x).getLsbD b = false := by
  unfold bitAt
  cases (s.cell x).getLsbD b <;> decide

theorem bitAt_lcdc_one {s : State} {b : Nat} : bitAt s 0xFF40 b = 1 ↔ lcdc s b = true := bitAt_eq_one
theorem bitAt_lcdc_zero {s : State} {b : Nat} : bitAt s 0xFF40 b = 0 ↔ lcdc s b = false := bitAt_eq_zero

/-! ## Background and window (60_exceptions R577 to R579) -/

theorem tilePixel_eq_tileColour (s : State) (t r c : Nat) : (tilePixel s t r c).toNat = tileColour s t r c :=
  tilePixel_toNat s t r c

theorem mapPixel_eq_mapColour (s : State) (base py px : Nat) : (mapPixel s base py px).toNat = mapColour s base py px := by
  unfold mapPixel mapColour
  dsimp only
  rw [tilePixel_eq_tileColour, bgTileAddr_eq]
  simp only [bitAt_lcdc_zero]

theorem windowCovers_iff (s : State) (L x : Nat) : windowCovers s L x = true ↔ windowAt s L x := by
  simp only [windowCovers, windowAt, bitAt_lcdc_one, Bool.and_eq_true, decide_eq_true_eq, and_assoc]

/-- The window's line as a line is drawn is the one the start of the line leaves. -/
theorem ppuEntered_windowLine_toNat (s : State) : (ppuEntered s).windowLine.toNat = windowRow s := by
  rw [ppuEntered_windowLine, windowRow, apply_ite BitVec.toNat]
  rfl

theorem windowRow_lt (s : State) : windowRow s < 256 := by
  rw [← ppuEntered_windowLine_toNat]
  exact (ppuEntered s).windowLine.isLt

/-- Drawing sees the cells as they were before the start of the line, but the window's line as that start leaves it. -/
theorem backgroundIndex_ppuEntered (s : State) {L x : Nat} (hx : x < 160) :
    (backgroundIndex (ppuEntered s) L x).toNat = layerColour s L x := by
  have hs := ppuEntered_sameScreen s
  unfold backgroundIndex layerColour
  rw [hs.lcdc, hs.lcdc, hs.lcdc, windowCovers_congr hs, ppuEntered_windowLine_toNat,
    hs.cell _ (by decide) (by decide), hs.cell _ (by decide) (by decide), hs.cell _ (by decide) (by decide)]
  rw [mapPixel_congr hs _ _ _ (by split <;> decide) (windowRow_lt s) (by omega),
    mapPixel_congr hs _ _ _ (by split <;> decide) (Nat.mod_lt _ (by decide)) (Nat.mod_lt _ (by decide))]
  simp only [bitAt_lcdc_zero, bitAt_lcdc_one, windowCovers_iff, apply_ite BitVec.toNat, mapPixel_eq_mapColour]
  rfl

theorem backgroundShade_ppuEntered (s : State) {L x : Nat} (hx : x < 160) (hon : lcdc s 7 = true) :
    (backgroundShade (ppuEntered s) (backgroundIndex (ppuEntered s) L x)).toNat = layerShade s L x := by
  have hs := ppuEntered_sameScreen s
  unfold backgroundShade layerShade
  rw [hs.lcdc, hs.cell _ (by decide) (by decide), apply_ite BitVec.toNat, shadeOf_toNat, backgroundIndex_ppuEntered s hx]
  simp only [bitAt_lcdc_zero, hon, Bool.true_eq_false, false_or]
  rfl

/-! ## Sprites (60_exceptions R580 to R582) -/

theorem pairTile_toNat : ∀ (t : Byte) (low : Bool),
    ((t &&& 0xFE) ||| (if low then 1 else 0)).toNat = t.toNat / 2 * 2 + (if low then 1 else 0) := by
  decide +kernel

/-- The tile of a sprite of height `h` that row `r` falls in (60_exceptions R581). -/
theorem spriteTile_toNat (t : Byte) (h r : Nat) :
    (if h = 16 then (t &&& 0xFE) ||| (if 8 ≤ r then 1 else 0) else t).toNat =
      if h = 16 then t.toNat / 2 * 2 + (if 8 ≤ r then 1 else 0) else t.toNat := by
  split
  · simpa using pairTile_toNat t (decide (8 ≤ r))
  · rfl

theorem spriteHeight_eq (s : State) : spriteHeight s = if bitAt s 0xFF40 2 = 1 then 16 else 8 := by
  simp only [spriteHeight, bitAt_lcdc_one]

theorem spriteIndex_eq_spriteColour (s : State) (sp : Sprite) (L x : Nat) :
    (spriteIndex s sp L x).toNat = spriteColour s sp L x := by
  unfold spriteIndex spriteColour
  dsimp only
  rw [tilePixel_eq_tileColour, spriteTile_toNat, spriteHeight_eq]

theorem decides_iff (s : State) (L x : Nat) (sp : Sprite) :
    decides s L x sp ↔ spriteCovers sp x = true ∧ spriteIndex s sp L x ≠ 0 := by
  have hne : spriteIndex s sp L x ≠ 0 ↔ spriteColour s sp L x ≠ 0 := by
    rw [← spriteIndex_eq_spriteColour]
    exact not_congr (BitVec.toNat_inj (y := 0)).symm
  rw [hne, decides, spriteCovers, Bool.and_eq_true, decide_eq_true_eq, decide_eq_true_eq]

theorem spriteShade_eq (s : State) (sp : Sprite) (L x : Nat) :
    (shadeOf (spritePalette s sp) (spriteIndex s sp L x)).toNat = spriteShade s sp L x := by
  have hpalette : spritePalette s sp = s.cell (if sp.attr.getLsbD 4 then 0xFF49 else 0xFF48) :=
    (apply_ite s.cell _ _ _).symm
  rw [shadeOf_toNat, spriteIndex_eq_spriteColour, hpalette]
  rfl

section
variable {s : State} {L x : Nat} {bgci bg : Shade}

theorem compositePixel_cons_of_not_decides {sp : Sprite} {rest : List Sprite} (h : ¬ decides s L x sp) :
    compositePixel s L x bgci bg (sp :: rest) = compositePixel s L x bgci bg rest :=
  if_neg fun hc => h ((decides_iff s L x sp).2 hc)

theorem compositePixel_cons_of_decides {sp : Sprite} {rest : List Sprite} (h : decides s L x sp) :
    (compositePixel s L x bgci bg (sp :: rest)).toNat =
      if s.cfg.objBgPriority = true ∧ sp.attr.getLsbD 7 = true ∧ bgci ≠ 0 then bg.toNat else spriteShade s sp L x := by
  rw [← spriteShade_eq, ← apply_ite BitVec.toNat]
  exact congrArg BitVec.toNat (if_pos ((decides_iff s L x sp).1 h))

/-- Sprites that decide nothing are passed over. -/
theorem compositePixel_append {front : List Sprite} (rest : List Sprite) (h : ∀ q ∈ front, ¬ decides s L x q) :
    compositePixel s L x bgci bg (front ++ rest) = compositePixel s L x bgci bg rest := by
  induction front with
  | nil => rfl
  | cons q front ih =>
    rw [List.cons_append, compositePixel_cons_of_not_decides (h q (by simp)), ih fun p hp => h p (by simp [hp])]

theorem compositePixel_of_none {sprites : List Sprite} (h : ∀ sp ∈ sprites, ¬ decides s L x sp) :
    compositePixel s L x bgci bg sprites = bg := by
  have := compositePixel_append (bgci := bgci) (bg := bg) [] h
  rwa [List.append_nil] at this

theorem compositePixel_of_first {front : List Sprite} {sp : Sprite} {back : List Sprite}
    (hfront : ∀ q ∈ front, ¬ decides s L x q) (hsp : decides s L x sp) :
    (compositePixel s L x bgci bg (front ++ sp :: back)).toNat =
      if s.cfg.objBgPriority = true ∧ sp.attr.getLsbD 7 = true ∧ bgci ≠ 0 then bg.toNat else spriteShade s sp L x := by
  rw [compositePixel_append _ hfront, compositePixel_cons_of_decides hsp]

end

/-- Settles O52, the pixel in plain arithmetic and the compositing by induction over the sprites passed over. -/
theorem spritePriority : Obligations.SpritePriority := by
  refine ⟨spriteIndex_eq_spriteColour, fun s L x bgci bg sprites => ⟨compositePixel_of_none, ?_⟩⟩
  rintro front sp back rfl hfront hsp
  exact compositePixel_of_first hfront hsp

/-! ## The order of the sprites (60_exceptions R580) -/

/-- The X of OAM entry `i`. -/
def oamX (s : State) (i : Nat) : Nat := (s.cell (0xFE00 + 4 * i + 1)).toNat

/-- The relation `insertByX` sorts by, on OAM indices. -/
abbrev XLe (s : State) (i j : Nat) : Prop := oamX s i ≤ oamX s j

/-- Priority: X ascending, ties by OAM index ascending. -/
def Before (s : State) (i j : Nat) : Prop := oamX s i < oamX s j ∨ (oamX s i = oamX s j ∧ i < j)

theorem insertByX_map (s : State) (i : Nat) (order : List Nat) :
    insertByX (oamEntry s i) (order.map (oamEntry s)) = (order.orderedInsert (XLe s) i).map (oamEntry s) := by
  induction order with
  | nil => rfl
  | cons j order ih =>
    rw [List.map_cons, insertByX, ih, List.orderedInsert]
    split
    · rw [if_pos (by assumption)]; rfl
    · rw [if_neg (by assumption)]; rfl

/-- Sorting the entries is sorting their indices. -/
theorem foldr_insertByX_map (s : State) (indices : List Nat) : (indices.map (oamEntry s)).foldr insertByX [] =
    (indices.insertionSort (XLe s)).map (oamEntry s) := by
  induction indices with
  | nil => rfl
  | cons i indices ih => rw [List.map_cons, List.foldr_cons, ih, insertByX_map]; rfl

/-- Inserting an index below all others keeps the order: a tie is put in front. -/
theorem pairwise_orderedInsert {s : State} {i : Nat} {order : List Nat} (h : order.Pairwise (Before s))
    (hi : ∀ j ∈ order, i < j) : (order.orderedInsert (XLe s) i).Pairwise (Before s) := by
  induction order with
  | nil => exact List.pairwise_singleton _ _
  | cons j order ih =>
    rw [List.pairwise_cons] at h
    obtain ⟨hj, hrest⟩ := h
    rw [List.orderedInsert]
    split
    case isTrue hle =>
      refine List.pairwise_cons.2 ⟨fun k hk => ?_, List.pairwise_cons.2 ⟨hj, hrest⟩⟩
      have hik := hi k hk
      unfold XLe at hle
      rcases List.mem_cons.1 hk with rfl | hk
      · unfold Before; omega
      · have := hj k hk
        unfold Before at *
        omega
    case isFalse hgt =>
      refine List.pairwise_cons.2 ⟨fun k hk => ?_, ih hrest fun k hk => hi k (List.mem_cons_of_mem j hk)⟩
      rcases (List.mem_orderedInsert _).1 hk with rfl | hk
      · exact Or.inl (Nat.lt_of_not_le hgt)
      · exact hj k hk

theorem pairwise_insertionSort (s : State) {indices : List Nat} (h : indices.Pairwise (· < ·)) :
    (indices.insertionSort (XLe s)).Pairwise (Before s) := by
  induction indices with
  | nil => exact List.Pairwise.nil
  | cons i indices ih =>
    rw [List.pairwise_cons] at h
    exact pairwise_orderedInsert (ih h.2) fun j hj => h.1 j ((List.mem_insertionSort _).1 hj)

theorem pairwise_selectedIndices (s : State) (L : Nat) : (selectedIndices s L).Pairwise (· < ·) :=
  List.pairwise_lt_range.sublist ((List.take_sublist _ _).trans List.filter_sublist)

theorem selectedSprites_eq (s : State) (L : Nat) : selectedSprites s L =
    ((selectedIndices s L).insertionSort (XLe s)).map (oamEntry s) := by
  have hcovers : spriteOnLine (spriteHeight s) L ∘ oamEntry s = fun i =>
      decide ((s.cell (0xFE00 + 4 * i)).toNat ≤ L + 16 ∧
        L + 16 < (s.cell (0xFE00 + 4 * i)).toNat + (if bitAt s 0xFF40 2 = 1 then 16 else 8)) := by
    funext i
    rw [Bool.decide_and, ← spriteHeight_eq]
    rfl
  rw [selectedSprites, List.filter_map, hcovers, ← List.map_take, foldr_insertByX_map]
  rfl

/-- Settles O51, by a stable sort of the selected indices. -/
theorem spriteSelectionAndOrder : Obligations.SpriteSelectionAndOrder := fun s L =>
  ⟨_, List.perm_insertionSort (XLe s) _, selectedSprites_eq s L,
    pairwise_insertionSort s (pairwise_selectedIndices s L), fun _ => rfl⟩

/-! ## A line drawn (60_exceptions R576, R583) -/

/-- The dot draws a line. -/
abbrev Draws (s : State) : Prop := s.line < 144 ∧ s.dot = s.cfg.renderDot

theorem ppuDrawn_ppuEntered (s : State) :
    ppuDrawn (ppuEntered s) = if Draws s then renderLine s.line (ppuEntered s) else ppuEntered s := by
  rw [ppuDrawn, ppuEntered_line, ppuEntered_dot, ppuEntered_cfg]
  rfl

theorem ppuDot_framebuffer_of_draws {s : State} (h : Draws s) :
    (ppuDot s).framebuffer = s.framebuffer.setRow s.line (lineShades (ppuEntered s) s.line) := by
  rw [ppuDot_framebuffer, ppuDrawn_ppuEntered, if_pos h, renderLine, ppuEntered_framebuffer]

theorem ppuDot_framebuffer_of_not_draws {s : State} (h : ¬ Draws s) : (ppuDot s).framebuffer = s.framebuffer := by
  rw [ppuDot_framebuffer, ppuDrawn_ppuEntered, if_neg h, ppuEntered_framebuffer]

/-- The start of a line changes nothing that compositing reads but through the layer below. -/
theorem pixelShade_ppuEntered (s : State) (L : Nat) (sprites : List Sprite) (x : Nat) :
    pixelShade (ppuEntered s) L sprites x = compositePixel s L x (backgroundIndex (ppuEntered s) L x)
      (backgroundShade (ppuEntered s) (backgroundIndex (ppuEntered s) L x)) sprites :=
  compositePixel_congr (ppuEntered_sameScreen s) ..

/-- The sprites that a line is composed of: none with sprites off. -/
def lineSprites (s : State) : List Sprite := if lcdc s 1 then selectedSprites s s.line else []

section
variable {s : State} {x : Nat} (hf : s.framebuffer.wf = true) (h : Draws s) (hx : x < 160)
include hf h hx

/-- Each pixel of the line drawn is composed of the line's sprites over the layer below; the LCD off, it is 0. -/
theorem ppuDot_pixel : (ppuDot s).framebuffer.pixel s.line x =
    if lcdc s 7 = false then 0
    else compositePixel s s.line x (backgroundIndex (ppuEntered s) s.line x)
      (backgroundShade (ppuEntered s) (backgroundIndex (ppuEntered s) s.line x)) (lineSprites s) := by
  have hs := ppuEntered_sameScreen s
  rw [ppuDot_framebuffer_of_draws h, Frame.pixel, Frame.row_setRow_same _ _ _ hf, lineShades_getD _ _ _ hx,
    pixelShade_ppuEntered, hs.lcdc, hs.lcdc, selectedSprites_congr hs]
  rfl

theorem ppuDot_pixel_of_off (hoff : lcdc s 7 = false) : (ppuDot s).framebuffer.pixel s.line x = 0 := by
  rw [ppuDot_pixel hf h hx, if_pos hoff]

/-- Where no sprite decides the pixel the layer below shows. -/
theorem ppuDot_pixel_of_none (hon : lcdc s 7 = true) (hnone : ∀ sp ∈ lineSprites s, ¬ decides s s.line x sp) :
    ((ppuDot s).framebuffer.pixel s.line x).toNat = layerShade s s.line x := by
  rw [ppuDot_pixel hf h hx, if_neg (by rw [hon]; decide), compositePixel_of_none hnone,
    backgroundShade_ppuEntered s hx hon]

/-- The first sprite that decides the pixel gives its shade, unless the layer below has priority (60_exceptions R582). -/
theorem ppuDot_pixel_of_first (hon : lcdc s 7 = true) {front : List Sprite} {sp : Sprite} {back : List Sprite}
    (hsprites : lineSprites s = front ++ sp :: back) (hfront : ∀ q ∈ front, ¬ decides s s.line x q)
    (hsp : decides s s.line x sp) : ((ppuDot s).framebuffer.pixel s.line x).toNat =
      if s.cfg.objBgPriority = true ∧ sp.attr.getLsbD 7 = true ∧ layerColour s s.line x ≠ 0 then layerShade s s.line x
      else spriteShade s sp s.line x := by
  have hindex : backgroundIndex (ppuEntered s) s.line x ≠ 0 ↔ layerColour s s.line x ≠ 0 := by
    rw [← backgroundIndex_ppuEntered s hx]
    exact not_congr (BitVec.toNat_inj (y := 0)).symm
  rw [ppuDot_pixel hf h hx, if_neg (by rw [hon]; decide), hsprites, compositePixel_of_first hfront hsp,
    backgroundShade_ppuEntered s hx hon]
  simp only [hindex]

end

/-- Settles O60, by the compositing over the selected sprites. -/
theorem spritesDrawnOnLine : Obligations.SpritesDrawnOnLine := by
  intro s x hf hon hsprites hl hd hx
  rw [bitAt_lcdc_one] at hon hsprites
  have hline : lineSprites s = selectedSprites s s.line := if_pos hsprites
  rw [← hline]
  exact ⟨ppuDot_pixel_of_none hf ⟨hl, hd⟩ hx hon, fun _ _ _ => ppuDot_pixel_of_first hf ⟨hl, hd⟩ hx hon⟩

/-- With the LCD or sprites off a pixel is that of the layer below, which is 0 with the LCD off. -/
theorem ppuDot_pixel_of_no_sprites {s : State} {x : Nat} (hf : s.framebuffer.wf = true) (h : Draws s) (hx : x < 160)
    (hno : lcdc s 7 = false ∨ lcdc s 1 = false) :
    ((ppuDot s).framebuffer.pixel s.line x).toNat = layerShade s s.line x := by
  cases hon : lcdc s 7
  case false =>
    rw [ppuDot_pixel_of_off hf h hx hon, layerShade, if_pos (Or.inl (bitAt_lcdc_zero.2 hon))]
    rfl
  case true =>
    have hline : lineSprites s = [] := if_neg (by simpa [hon] using hno)
    exact ppuDot_pixel_of_none hf h hx hon (by simp [hline])

/-! ## The window's line (60_exceptions R576, R579) -/

theorem windowUsed_ppuEntered (s : State) : windowUsed (ppuEntered s) s.line = true ↔ windowShown s s.line := by
  have hs := ppuEntered_sameScreen s
  rw [windowUsed_eq, hs.lcdc, hs.lcdc, hs.lcdc, hs.cell _ (by decide) (by decide), hs.cell _ (by decide) (by decide)]
  simp only [windowShown, bitAt_lcdc_one, Bool.and_eq_true, decide_eq_true_eq, and_assoc]

theorem renderLine_windowLine_toNat (s : State) : (renderLine s.line (ppuEntered s)).windowLine.toNat =
    if windowShown s s.line then (windowRow s + 1) % 256 else windowRow s := by
  rw [renderLine, ← ppuEntered_windowLine_toNat]
  simp only [windowUsed_ppuEntered, apply_ite BitVec.toNat, BitVec.toNat_add]
  rfl

theorem ppuDot_windowLine_toNat (s : State) : (ppuDot s).windowLine.toNat =
    if s.line < 144 ∧ s.dot = s.cfg.renderDot ∧ windowShown s s.line then (windowRow s + 1) % 256 else windowRow s := by
  rw [ppuDot_windowLine, ppuDrawn_ppuEntered]
  by_cases h : Draws s
  · rw [if_pos h, renderLine_windowLine_toNat]
    simp only [h.1, h.2, true_and]
  · rw [if_neg h, if_neg fun hw => h ⟨hw.1, hw.2.1⟩, ppuEntered_windowLine_toNat]

/-- Settles O50: the line drawn without sprites, the lines left, and the window's line. -/
theorem backgroundLineDrawn : Obligations.BackgroundLineDrawn := by
  intro s hf
  refine ⟨fun hl hd => ⟨fun hno x hx => ?_, fun y hy => ?_⟩, ppuDot_framebuffer_of_not_draws, ppuDot_windowLine_toNat s⟩
  · rw [bitAt_lcdc_zero, bitAt_lcdc_zero] at hno
    exact ppuDot_pixel_of_no_sprites hf ⟨hl, hd⟩ hx hno
  · rw [ppuDot_framebuffer_of_draws ⟨hl, hd⟩, Frame.row_setRow_other _ _ _ _ hy]

end Sys2Proof.Machine

/-! SUPPORT. The two boot paths. -/

namespace Sys2Proof.Machine
open Sys2Proof.Claims

/-- The state after the load of the images, before the post-boot table. -/
def State.loaded (cfg : Config) (image : List Byte) (boot : Option (List Byte)) : State :=
  loadBootRom boot (loadRom image (State.powerOn cfg))

theorem boot_some (cfg : Config) (image boot : List Byte) :
    State.boot cfg image (some boot) = State.loaded cfg image (some boot) := rfl

theorem boot_none (cfg : Config) (image : List Byte) :
    State.boot cfg image none = postBoot (State.loaded cfg image none) := rfl

/-- MBC1-class images, their type byte inside the image (20_memory R130). -/
theorem isMbc1_iff (image : List Byte) :
    isMbc1 image = true ↔ 0x148 ≤ image.length ∧ image.getD 0x147 0 ∈ [1, 2, 3] := by
  unfold isMbc1
  by_cases h : 0x147 < image.length
  · simp [List.getD_eq_getElem?_getD, h, or_assoc, Nat.succ_le_of_lt h]
  · have h' : ¬ 0x148 ≤ image.length := h
    rw [List.getElem?_eq_none (Nat.not_lt.1 h)]
    simp [h']

section
variable (cfg : Config) (image : List Byte) (boot : Option (List Byte))

theorem loaded_cell (x : Nat) : (State.loaded cfg image boot).cell x = if x < 0x8000 then image.getD x 0 else 0 :=
  loadRom_cell image cfg x

theorem loaded_wf : (State.loaded cfg image boot).mem.wf = true :=
  storeBytes_wf _ _ _ rfl (by rw [List.length_take]; omega)

theorem loaded_restAtReset : restAtReset (State.loaded cfg image boot) :=
  ⟨⟨rfl, rfl, rfl, rfl, rfl, rfl⟩, rfl, fun k => by cases k <;> rfl, ⟨rfl, rfl, rfl, rfl, rfl⟩, pixel_nil⟩

end

/-! ## The post-boot table (70_reset R610) -/

theorem postBootCells_eq : postBootCells = postBootTable := rfl

theorem postBootTable_distinct : (postBootTable.map Prod.fst).Nodup := by decide

theorem postBootTable_range : ∀ p ∈ postBootTable, 0x8000 ≤ p.1 ∧ p.1 < 65536 := by decide

/-- The path writes memory, the registers and the divider. -/
theorem postBoot_only (s : State) : ∃ m, postBoot s = { s with
    mem := m, a := 0x01, f := 0xB0, b := 0x00, c := 0x13, d := 0x00, e := 0xD8, h := 0x01, l := 0x4D
    sp := 0xFFFE, pc := 0x0100, div := s.cfg.postBootDiv } := by
  obtain ⟨m, e⟩ := foldl_mem_only (fun t p => t.setCell p.1 p.2) (fun _ _ => ⟨_, rfl⟩) postBootCells s
  exact ⟨m, by rw [postBoot, e]⟩

theorem postBoot_mem (s : State) :
    (postBoot s).mem = (postBootTable.foldl (fun t p => t.setCell p.1 p.2) s).mem := by
  rw [← postBootCells_eq, postBoot]

theorem postBoot_cell (s : State) (x : Nat) :
    (postBoot s).cell x = (postBootTable.foldl (fun t p => t.setCell p.1 p.2) s).cell x := by
  rw [State.cell_def, postBoot_mem, State.cell_def]

theorem postBoot_cell_of_unlisted {s : State} {x : Nat} (hx : ∀ p ∈ postBootTable, p.1 ≠ x) :
    (postBoot s).cell x = s.cell x := by
  rw [postBoot_cell, foldl_setCell_cell_other _ _ _ hx]

section
variable {s : State} (h : s.mem.wf = true)
include h

theorem postBoot_cell_of_listed (p : Nat × Byte) (hp : p ∈ postBootTable) : (postBoot s).cell p.1 = p.2 := by
  rw [postBoot_cell,
    foldl_setCell_cell_same _ s h (fun q hq => (postBootTable_range q hq).2) postBootTable_distinct p hp]

theorem postBoot_wf : (postBoot s).mem.wf = true := by
  rw [postBoot_mem]
  exact foldl_keeps (fun t : State => t.mem.wf = true) _ _ s h
    fun t p hp ht => State.setCell_wf t _ _ ht (postBootTable_range p hp).2

end

/-! ## Both paths -/

section
variable (cfg : Config) (image : List Byte)

theorem postBoot_restAtReset : restAtReset (postBoot (State.loaded cfg image none)) := by
  obtain ⟨m, e⟩ := postBoot_only (State.loaded cfg image none)
  rw [e]
  exact loaded_restAtReset cfg image none

/-- The coincidence of line 0 with LYC 0, and mode 2, over the table's STAT. -/
theorem postBoot_first_STAT : (ppuDot (postBoot (State.loaded cfg image none))).cell 0xFF41 = 0x86 := by
  have hm := loaded_wf cfg image none
  have hstat := postBoot_cell_of_listed hm (0xFF41, 0x85) (by decide)
  have hlyc := postBoot_cell_of_listed hm (0xFF45, 0x00) (by decide)
  obtain ⟨_, _, _, ⟨hline, hdot, _⟩, _⟩ := postBoot_restAtReset cfg image
  rw [ppuDot_STAT (postBoot_wf hm), hstat, hlyc, hline, hdot]
  rfl

theorem postBoot_cell_rom {x : Nat} (hx : x < 0x8000) :
    (postBoot (State.loaded cfg image none)).cell x = image.getD x 0 := by
  rw [postBoot_cell_of_unlisted fun p hp => by have := postBootTable_range p hp; omega, loaded_cell, if_pos hx]

theorem postBoot_cell_zero {x : Nat} (hx : 0x8000 ≤ x) (hp : ∀ p ∈ postBootTable, p.1 ≠ x) :
    (postBoot (State.loaded cfg image none)).cell x = 0 := by
  rw [postBoot_cell_of_unlisted hp, loaded_cell, if_neg (Nat.not_lt.2 hx)]

/-- The first fetch goes through the overlay, which 0xFF50 = 0 leaves on. -/
theorem loaded_first_fetch (boot : List Byte) :
    readByte (State.loaded cfg image (some boot)) 0 = boot.getD 0 0 := by
  obtain ⟨hoverlay, _⟩ := busRead (State.loaded cfg image (some boot)) 0
  exact hoverlay boot rfl (loaded_cell cfg image (some boot) 0xFF50) (by decide)

end

/-- Settles O4, the path without a boot image by the writes of the post-boot table, the other by the load alone. -/
theorem bootPaths : Obligations.BootPaths := by
  refine fun cfg image => ⟨?_, fun boot => ?_⟩
  · have hm := loaded_wf cfg image none
    obtain ⟨m, e⟩ := postBoot_only (State.loaded cfg image none)
    rw [boot_none]
    refine ⟨?_, postBoot_restAtReset cfg image, ?_, ?_, ?_, ?_, postBoot_first_STAT cfg image, postBoot_cell_of_listed hm,
      fun x => postBoot_cell_zero cfg image, fun x => postBoot_cell_rom cfg image⟩
    · rw [e]; exact ⟨rfl, rfl, rfl, rfl, rfl, rfl, rfl, rfl, rfl, rfl, rfl⟩
    · rw [e]; rfl
    · rw [e]; rfl
    · rw [e]; rfl
    · rw [e]; exact isMbc1_iff image
  · rw [boot_some]
    exact ⟨⟨rfl, rfl, rfl, rfl, rfl, rfl, rfl, rfl, rfl, rfl, rfl⟩, loaded_restAtReset cfg image _, rfl, rfl, rfl,
      isMbc1_iff image, loaded_cell cfg image _ 0xFF50, loaded_first_fetch cfg image boot, loaded_cell cfg image _⟩

end Sys2Proof.Machine
